-- ==== Sys2Proof/Word.lean ====
section
/-! DEFINITION. The widths of the hardware (R6). -/

namespace Sys2Proof

/-- A 16-bit word: an instruction, a register A or D, an ALU operand or result, a data-bus value (R6). -/
abbrev Word := BitVec 16

/-- A 15-bit word address, and the program counter (R6, R43). -/
abbrev Addr := BitVec 15

/-- Half a word. Only the model's memory lists and the adder's stages (R80) deal in bytes; no instruction does (R44). -/
abbrev Byte := BitVec 8

end Sys2Proof
end

