-- ==== Sys2Proof/Syntax.lean ====
section
/-! DEFINITION. The instructions as syntax: one constructor of `Instr` per row of spec/opcode_table.json.

The instruction set has two instructions in the strict sense, `ALOAD` and `COMP` (R71); the table's other 82 rows each
fix ONE field of `COMP` (the operand select, the control code, the destination flags or the condition code) and leave
the rest free. A constructor stands for its row: it carries, as arguments, every field its row leaves free, the two
ignored bits among them (R67), so that no bit of the word is lost. A compute word matches five rows at once; which of
the five constructors the decoder answers is settled in Decode.lean (log entry 1), and has no effect on what the word
does. -/

namespace Sys2Proof

/-- The ALU's second operand (R66): `regA` where instruction bit 12 is 0, `mem` where it is 1. -/
inductive Operand where
  | regA
  | mem
  deriving DecidableEq, Repr

/-- The six ALU control bits, instruction bits 11 down to 6 in this order (R63). -/
structure Ctl where
  zx : Bool
  nx : Bool
  zy : Bool
  ny : Bool
  f : Bool
  no : Bool
  deriving DecidableEq, Repr

/-- The three independent destination flags, instruction bits 5, 4 and 3 (R64). -/
structure Dest where
  dA : Bool
  dD : Bool
  dM : Bool
  deriving DecidableEq, Repr

/-- The condition code, instruction bits 2, 1 and 0: jump if negative, if zero, if positive (R65). -/
structure Cond where
  j2 : Bool
  j1 : Bool
  j0 : Bool
  deriving DecidableEq, Repr

/-- Every field of a word of format C but the type bit (R62); `ign` is bits 14 and 13, read by nothing (R67). -/
structure CompFields where
  ign : BitVec 2
  a : Operand
  ctl : Ctl
  dest : Dest
  cond : Cond
  deriving DecidableEq, Repr

/-- The control code 000000. -/
def Ctl.zero : Ctl := ⟨false, false, false, false, false, false⟩

/-- The destination field 000: no destination (R131). -/
def Dest.nowhere : Dest := ⟨false, false, false⟩

/-- The condition code 000: never jumps (R153). -/
def Cond.never : Cond := ⟨false, false, false⟩

/-- The condition code 111: always jumps (R160). -/
def Cond.always : Cond := ⟨true, true, true⟩

/-- One constructor per row of spec/opcode_table.json, in the table's order. -/
inductive Instr where
  /-- `ALOAD value` (R61, R120). -/
  | aload (value : BitVec 15)
  /-- `COMP`, every field an operand (R62, R127). -/
  | comp (ign : BitVec 2) (a : Operand) (ctl : Ctl) (dest : Dest) (cond : Cond)
  /-- `COMP.a0`: second operand A (R125). -/
  | compA0 (ign : BitVec 2) (ctl : Ctl) (dest : Dest) (cond : Cond)
  /-- `COMP.a1`: second operand M (R126). -/
  | compA1 (ign : BitVec 2) (ctl : Ctl) (dest : Dest) (cond : Cond)
  /-- `COMP.ctl.000000`: x & y (R176). -/
  | compCtl000000 (ign : BitVec 2) (a : Operand) (dest : Dest) (cond : Cond)
  /-- `COMP.ctl.000001`: ~(x & y) (R177). -/
  | compCtl000001 (ign : BitVec 2) (a : Operand) (dest : Dest) (cond : Cond)
  /-- `COMP.ctl.000010`: x + y (R178). -/
  | compCtl000010 (ign : BitVec 2) (a : Operand) (dest : Dest) (cond : Cond)
  /-- `COMP.ctl.000011`: -x - y - 1 (R179). -/
  | compCtl000011 (ign : BitVec 2) (a : Operand) (dest : Dest) (cond : Cond)
  /-- `COMP.ctl.000100`: x & ~y (R180). -/
  | compCtl000100 (ign : BitVec 2) (a : Operand) (dest : Dest) (cond : Cond)
  /-- `COMP.ctl.000101`: ~x OR y (R181). -/
  | compCtl000101 (ign : BitVec 2) (a : Operand) (dest : Dest) (cond : Cond)
  /-- `COMP.ctl.000110`: x - y - 1 (R182). -/
  | compCtl000110 (ign : BitVec 2) (a : Operand) (dest : Dest) (cond : Cond)
  /-- `COMP.ctl.000111`: y - x (R183). -/
  | compCtl000111 (ign : BitVec 2) (a : Operand) (dest : Dest) (cond : Cond)
  /-- `COMP.ctl.001000`: 0 (R184). -/
  | compCtl001000 (ign : BitVec 2) (a : Operand) (dest : Dest) (cond : Cond)
  /-- `COMP.ctl.001001`: -1 (R185). -/
  | compCtl001001 (ign : BitVec 2) (a : Operand) (dest : Dest) (cond : Cond)
  /-- `COMP.ctl.001010`: x (R186). -/
  | compCtl001010 (ign : BitVec 2) (a : Operand) (dest : Dest) (cond : Cond)
  /-- `COMP.ctl.001011`: ~x (R187). -/
  | compCtl001011 (ign : BitVec 2) (a : Operand) (dest : Dest) (cond : Cond)
  /-- `COMP.ctl.001100`: x (R188). -/
  | compCtl001100 (ign : BitVec 2) (a : Operand) (dest : Dest) (cond : Cond)
  /-- `COMP.ctl.001101`: ~x (R189). -/
  | compCtl001101 (ign : BitVec 2) (a : Operand) (dest : Dest) (cond : Cond)
  /-- `COMP.ctl.001110`: x - 1 (R190). -/
  | compCtl001110 (ign : BitVec 2) (a : Operand) (dest : Dest) (cond : Cond)
  /-- `COMP.ctl.001111`: -x (R191). -/
  | compCtl001111 (ign : BitVec 2) (a : Operand) (dest : Dest) (cond : Cond)
  /-- `COMP.ctl.010000`: ~x & y (R192). -/
  | compCtl010000 (ign : BitVec 2) (a : Operand) (dest : Dest) (cond : Cond)
  /-- `COMP.ctl.010001`: x OR ~y (R193). -/
  | compCtl010001 (ign : BitVec 2) (a : Operand) (dest : Dest) (cond : Cond)
  /-- `COMP.ctl.010010`: y - x - 1 (R194). -/
  | compCtl010010 (ign : BitVec 2) (a : Operand) (dest : Dest) (cond : Cond)
  /-- `COMP.ctl.010011`: x - y (R195). -/
  | compCtl010011 (ign : BitVec 2) (a : Operand) (dest : Dest) (cond : Cond)
  /-- `COMP.ctl.010100`: ~(x OR y) (R196). -/
  | compCtl010100 (ign : BitVec 2) (a : Operand) (dest : Dest) (cond : Cond)
  /-- `COMP.ctl.010101`: x OR y (R197). -/
  | compCtl010101 (ign : BitVec 2) (a : Operand) (dest : Dest) (cond : Cond)
  /-- `COMP.ctl.010110`: -x - y - 2 (R198). -/
  | compCtl010110 (ign : BitVec 2) (a : Operand) (dest : Dest) (cond : Cond)
  /-- `COMP.ctl.010111`: x + y + 1 (R199). -/
  | compCtl010111 (ign : BitVec 2) (a : Operand) (dest : Dest) (cond : Cond)
  /-- `COMP.ctl.011000`: 0 (R200). -/
  | compCtl011000 (ign : BitVec 2) (a : Operand) (dest : Dest) (cond : Cond)
  /-- `COMP.ctl.011001`: -1 (R201). -/
  | compCtl011001 (ign : BitVec 2) (a : Operand) (dest : Dest) (cond : Cond)
  /-- `COMP.ctl.011010`: ~x (R202). -/
  | compCtl011010 (ign : BitVec 2) (a : Operand) (dest : Dest) (cond : Cond)
  /-- `COMP.ctl.011011`: x (R203). -/
  | compCtl011011 (ign : BitVec 2) (a : Operand) (dest : Dest) (cond : Cond)
  /-- `COMP.ctl.011100`: ~x (R204). -/
  | compCtl011100 (ign : BitVec 2) (a : Operand) (dest : Dest) (cond : Cond)
  /-- `COMP.ctl.011101`: x (R205). -/
  | compCtl011101 (ign : BitVec 2) (a : Operand) (dest : Dest) (cond : Cond)
  /-- `COMP.ctl.011110`: -x - 2 (R206). -/
  | compCtl011110 (ign : BitVec 2) (a : Operand) (dest : Dest) (cond : Cond)
  /-- `COMP.ctl.011111`: x + 1 (R207). -/
  | compCtl011111 (ign : BitVec 2) (a : Operand) (dest : Dest) (cond : Cond)
  /-- `COMP.ctl.100000`: 0 (R208). -/
  | compCtl100000 (ign : BitVec 2) (a : Operand) (dest : Dest) (cond : Cond)
  /-- `COMP.ctl.100001`: -1 (R209). -/
  | compCtl100001 (ign : BitVec 2) (a : Operand) (dest : Dest) (cond : Cond)
  /-- `COMP.ctl.100010`: y (R210). -/
  | compCtl100010 (ign : BitVec 2) (a : Operand) (dest : Dest) (cond : Cond)
  /-- `COMP.ctl.100011`: ~y (R211). -/
  | compCtl100011 (ign : BitVec 2) (a : Operand) (dest : Dest) (cond : Cond)
  /-- `COMP.ctl.100100`: 0 (R212). -/
  | compCtl100100 (ign : BitVec 2) (a : Operand) (dest : Dest) (cond : Cond)
  /-- `COMP.ctl.100101`: -1 (R213). -/
  | compCtl100101 (ign : BitVec 2) (a : Operand) (dest : Dest) (cond : Cond)
  /-- `COMP.ctl.100110`: ~y (R214). -/
  | compCtl100110 (ign : BitVec 2) (a : Operand) (dest : Dest) (cond : Cond)
  /-- `COMP.ctl.100111`: y (R215). -/
  | compCtl100111 (ign : BitVec 2) (a : Operand) (dest : Dest) (cond : Cond)
  /-- `COMP.ctl.101000`: 0 (R216). -/
  | compCtl101000 (ign : BitVec 2) (a : Operand) (dest : Dest) (cond : Cond)
  /-- `COMP.ctl.101001`: -1 (R217). -/
  | compCtl101001 (ign : BitVec 2) (a : Operand) (dest : Dest) (cond : Cond)
  /-- `COMP.ctl.101010`: 0 (R218). -/
  | compCtl101010 (ign : BitVec 2) (a : Operand) (dest : Dest) (cond : Cond)
  /-- `COMP.ctl.101011`: -1 (R219). -/
  | compCtl101011 (ign : BitVec 2) (a : Operand) (dest : Dest) (cond : Cond)
  /-- `COMP.ctl.101100`: 0 (R220). -/
  | compCtl101100 (ign : BitVec 2) (a : Operand) (dest : Dest) (cond : Cond)
  /-- `COMP.ctl.101101`: -1 (R221). -/
  | compCtl101101 (ign : BitVec 2) (a : Operand) (dest : Dest) (cond : Cond)
  /-- `COMP.ctl.101110`: -1 (R222). -/
  | compCtl101110 (ign : BitVec 2) (a : Operand) (dest : Dest) (cond : Cond)
  /-- `COMP.ctl.101111`: 0 (R223). -/
  | compCtl101111 (ign : BitVec 2) (a : Operand) (dest : Dest) (cond : Cond)
  /-- `COMP.ctl.110000`: y (R224). -/
  | compCtl110000 (ign : BitVec 2) (a : Operand) (dest : Dest) (cond : Cond)
  /-- `COMP.ctl.110001`: ~y (R225). -/
  | compCtl110001 (ign : BitVec 2) (a : Operand) (dest : Dest) (cond : Cond)
  /-- `COMP.ctl.110010`: y - 1 (R226). -/
  | compCtl110010 (ign : BitVec 2) (a : Operand) (dest : Dest) (cond : Cond)
  /-- `COMP.ctl.110011`: -y (R227). -/
  | compCtl110011 (ign : BitVec 2) (a : Operand) (dest : Dest) (cond : Cond)
  /-- `COMP.ctl.110100`: ~y (R228). -/
  | compCtl110100 (ign : BitVec 2) (a : Operand) (dest : Dest) (cond : Cond)
  /-- `COMP.ctl.110101`: y (R229). -/
  | compCtl110101 (ign : BitVec 2) (a : Operand) (dest : Dest) (cond : Cond)
  /-- `COMP.ctl.110110`: -y - 2 (R230). -/
  | compCtl110110 (ign : BitVec 2) (a : Operand) (dest : Dest) (cond : Cond)
  /-- `COMP.ctl.110111`: y + 1 (R231). -/
  | compCtl110111 (ign : BitVec 2) (a : Operand) (dest : Dest) (cond : Cond)
  /-- `COMP.ctl.111000`: 0 (R232). -/
  | compCtl111000 (ign : BitVec 2) (a : Operand) (dest : Dest) (cond : Cond)
  /-- `COMP.ctl.111001`: -1 (R233). -/
  | compCtl111001 (ign : BitVec 2) (a : Operand) (dest : Dest) (cond : Cond)
  /-- `COMP.ctl.111010`: -1 (R234). -/
  | compCtl111010 (ign : BitVec 2) (a : Operand) (dest : Dest) (cond : Cond)
  /-- `COMP.ctl.111011`: 0 (R235). -/
  | compCtl111011 (ign : BitVec 2) (a : Operand) (dest : Dest) (cond : Cond)
  /-- `COMP.ctl.111100`: -1 (R236). -/
  | compCtl111100 (ign : BitVec 2) (a : Operand) (dest : Dest) (cond : Cond)
  /-- `COMP.ctl.111101`: 0 (R237). -/
  | compCtl111101 (ign : BitVec 2) (a : Operand) (dest : Dest) (cond : Cond)
  /-- `COMP.ctl.111110`: -2 (R238). -/
  | compCtl111110 (ign : BitVec 2) (a : Operand) (dest : Dest) (cond : Cond)
  /-- `COMP.ctl.111111`: 1 (R239). -/
  | compCtl111111 (ign : BitVec 2) (a : Operand) (dest : Dest) (cond : Cond)
  /-- `COMP.dest.000` (R131). -/
  | compDest000 (ign : BitVec 2) (a : Operand) (ctl : Ctl) (cond : Cond)
  /-- `COMP.dest.001` (R132). -/
  | compDest001 (ign : BitVec 2) (a : Operand) (ctl : Ctl) (cond : Cond)
  /-- `COMP.dest.010` (R133). -/
  | compDest010 (ign : BitVec 2) (a : Operand) (ctl : Ctl) (cond : Cond)
  /-- `COMP.dest.011` (R134). -/
  | compDest011 (ign : BitVec 2) (a : Operand) (ctl : Ctl) (cond : Cond)
  /-- `COMP.dest.100` (R135). -/
  | compDest100 (ign : BitVec 2) (a : Operand) (ctl : Ctl) (cond : Cond)
  /-- `COMP.dest.101` (R136). -/
  | compDest101 (ign : BitVec 2) (a : Operand) (ctl : Ctl) (cond : Cond)
  /-- `COMP.dest.110` (R137). -/
  | compDest110 (ign : BitVec 2) (a : Operand) (ctl : Ctl) (cond : Cond)
  /-- `COMP.dest.111` (R138). -/
  | compDest111 (ign : BitVec 2) (a : Operand) (ctl : Ctl) (cond : Cond)
  /-- `COMP.jump.000` (R153). -/
  | compJump000 (ign : BitVec 2) (a : Operand) (ctl : Ctl) (dest : Dest)
  /-- `COMP.jump.001` (R154). -/
  | compJump001 (ign : BitVec 2) (a : Operand) (ctl : Ctl) (dest : Dest)
  /-- `COMP.jump.010` (R155). -/
  | compJump010 (ign : BitVec 2) (a : Operand) (ctl : Ctl) (dest : Dest)
  /-- `COMP.jump.011` (R156). -/
  | compJump011 (ign : BitVec 2) (a : Operand) (ctl : Ctl) (dest : Dest)
  /-- `COMP.jump.100` (R157). -/
  | compJump100 (ign : BitVec 2) (a : Operand) (ctl : Ctl) (dest : Dest)
  /-- `COMP.jump.101` (R158). -/
  | compJump101 (ign : BitVec 2) (a : Operand) (ctl : Ctl) (dest : Dest)
  /-- `COMP.jump.110` (R159). -/
  | compJump110 (ign : BitVec 2) (a : Operand) (ctl : Ctl) (dest : Dest)
  /-- `COMP.jump.111` (R160). -/
  | compJump111 (ign : BitVec 2) (a : Operand) (ctl : Ctl) (dest : Dest)
  deriving DecidableEq, Repr

end Sys2Proof
end

