-- ==== Sys2Proof/WellFormed.lean ====
section
/-! DEFINITION. Which terms of `Instr` are instructions the decoder answers.

Every field has the exact width its encoding gives it, so no operand can be out of range. What is left to check is the
NAME: a compute word matches five rows of the table, and the decoder answers one of them (log entry 1). A term is well
formed when its constructor is the one its own word is named by. A term that is not well formed still has an encoding
and a meaning, and they are those of the well-formed term of the same word. -/

namespace Sys2Proof

/-- The naming rule, constructor by constructor (log entry 1).
A nonzero control code names the word.
Among the words of control code 000000, the destination field, the condition code and the operand select decide. -/
def Instr.wellFormed : Instr → Bool
  | .aload _ => true
  | .comp _ a c d j => a == .regA && c == Ctl.zero && d == Dest.nowhere && j == Cond.never
  | .compA0 _ c d j => c == Ctl.zero && d != Dest.nowhere && j != Cond.never
  | .compA1 _ c d j => c == Ctl.zero && d == Dest.nowhere && j == Cond.never
  | .compCtl000000 _ a d j => a == .mem && d != Dest.nowhere && j != Cond.never
  | .compCtl000001 _ _ _ _ => true
  | .compCtl000010 _ _ _ _ => true
  | .compCtl000011 _ _ _ _ => true
  | .compCtl000100 _ _ _ _ => true
  | .compCtl000101 _ _ _ _ => true
  | .compCtl000110 _ _ _ _ => true
  | .compCtl000111 _ _ _ _ => true
  | .compCtl001000 _ _ _ _ => true
  | .compCtl001001 _ _ _ _ => true
  | .compCtl001010 _ _ _ _ => true
  | .compCtl001011 _ _ _ _ => true
  | .compCtl001100 _ _ _ _ => true
  | .compCtl001101 _ _ _ _ => true
  | .compCtl001110 _ _ _ _ => true
  | .compCtl001111 _ _ _ _ => true
  | .compCtl010000 _ _ _ _ => true
  | .compCtl010001 _ _ _ _ => true
  | .compCtl010010 _ _ _ _ => true
  | .compCtl010011 _ _ _ _ => true
  | .compCtl010100 _ _ _ _ => true
  | .compCtl010101 _ _ _ _ => true
  | .compCtl010110 _ _ _ _ => true
  | .compCtl010111 _ _ _ _ => true
  | .compCtl011000 _ _ _ _ => true
  | .compCtl011001 _ _ _ _ => true
  | .compCtl011010 _ _ _ _ => true
  | .compCtl011011 _ _ _ _ => true
  | .compCtl011100 _ _ _ _ => true
  | .compCtl011101 _ _ _ _ => true
  | .compCtl011110 _ _ _ _ => true
  | .compCtl011111 _ _ _ _ => true
  | .compCtl100000 _ _ _ _ => true
  | .compCtl100001 _ _ _ _ => true
  | .compCtl100010 _ _ _ _ => true
  | .compCtl100011 _ _ _ _ => true
  | .compCtl100100 _ _ _ _ => true
  | .compCtl100101 _ _ _ _ => true
  | .compCtl100110 _ _ _ _ => true
  | .compCtl100111 _ _ _ _ => true
  | .compCtl101000 _ _ _ _ => true
  | .compCtl101001 _ _ _ _ => true
  | .compCtl101010 _ _ _ _ => true
  | .compCtl101011 _ _ _ _ => true
  | .compCtl101100 _ _ _ _ => true
  | .compCtl101101 _ _ _ _ => true
  | .compCtl101110 _ _ _ _ => true
  | .compCtl101111 _ _ _ _ => true
  | .compCtl110000 _ _ _ _ => true
  | .compCtl110001 _ _ _ _ => true
  | .compCtl110010 _ _ _ _ => true
  | .compCtl110011 _ _ _ _ => true
  | .compCtl110100 _ _ _ _ => true
  | .compCtl110101 _ _ _ _ => true
  | .compCtl110110 _ _ _ _ => true
  | .compCtl110111 _ _ _ _ => true
  | .compCtl111000 _ _ _ _ => true
  | .compCtl111001 _ _ _ _ => true
  | .compCtl111010 _ _ _ _ => true
  | .compCtl111011 _ _ _ _ => true
  | .compCtl111100 _ _ _ _ => true
  | .compCtl111101 _ _ _ _ => true
  | .compCtl111110 _ _ _ _ => true
  | .compCtl111111 _ _ _ _ => true
  | .compDest000 _ a c j => a == .mem && c == Ctl.zero && j != Cond.never
  | .compDest001 _ a c j => a == .regA && c == Ctl.zero && j == Cond.never
  | .compDest010 _ a c j => a == .regA && c == Ctl.zero && j == Cond.never
  | .compDest011 _ a c j => a == .regA && c == Ctl.zero && j == Cond.never
  | .compDest100 _ a c j => a == .regA && c == Ctl.zero && j == Cond.never
  | .compDest101 _ a c j => a == .regA && c == Ctl.zero && j == Cond.never
  | .compDest110 _ a c j => a == .regA && c == Ctl.zero && j == Cond.never
  | .compDest111 _ a c j => a == .regA && c == Ctl.zero && j == Cond.never
  | .compJump000 _ a c d => a == .mem && c == Ctl.zero && d != Dest.nowhere
  | .compJump001 _ a c d => a == .regA && c == Ctl.zero && d == Dest.nowhere
  | .compJump010 _ a c d => a == .regA && c == Ctl.zero && d == Dest.nowhere
  | .compJump011 _ a c d => a == .regA && c == Ctl.zero && d == Dest.nowhere
  | .compJump100 _ a c d => a == .regA && c == Ctl.zero && d == Dest.nowhere
  | .compJump101 _ a c d => a == .regA && c == Ctl.zero && d == Dest.nowhere
  | .compJump110 _ a c d => a == .regA && c == Ctl.zero && d == Dest.nowhere
  | .compJump111 _ a c d => a == .regA && c == Ctl.zero && d == Dest.nowhere

/-- The term is the one the decoder answers for its word. -/
abbrev WellFormed (i : Instr) : Prop := i.wellFormed = true

end Sys2Proof
end

