-- ==== Sys2Proof/Decode.lean ====
section
/-! DEFINITION. The decoder, total on every word (R60, R69), and after it the encoder (R61, R62).

Bit 15 alone tells the two formats apart (R60); every field is read where R62 and R63 place it. No word is refused:
the one thing refused, by name, is a byte string too short to hold a word. A compute word matches five rows of the
table; `nameComp` says which constructor it is answered as (log entry 1). -/

namespace Sys2Proof

/-- Why a byte string holds no instruction. Every 16-bit word decodes (R69), so this is the one reason.
Raised by `decodeBytes` alone; `step` reads a whole word and never meets it (safe). -/
inductive DecodeError where
  /-- Fewer than the two bytes of a word (R60) are left. -/
  | truncated
  deriving DecidableEq, Repr

/-- The operand that instruction bit 12 selects (R66). -/
def Operand.ofBit (b : Bool) : Operand := if b then .mem else .regA

/-- Instruction bit 12 of an operand select (R66). -/
def Operand.bit : Operand → Bool
  | .regA => false
  | .mem => true

/-- The fields of a compute word, each at the bits R62 and R63 give it. -/
def CompFields.ofWord (w : Word) : CompFields where
  ign := w.extractLsb' 13 2
  a := Operand.ofBit (w.getLsbD 12)
  ctl := ⟨w.getLsbD 11, w.getLsbD 10, w.getLsbD 9, w.getLsbD 8, w.getLsbD 7, w.getLsbD 6⟩
  dest := ⟨w.getLsbD 5, w.getLsbD 4, w.getLsbD 3⟩
  cond := ⟨w.getLsbD 2, w.getLsbD 1, w.getLsbD 0⟩

/-- The constructor of a control code's row, `COMP.ctl.<zx nx zy ny f no>`. -/
def nameCtl (ign : BitVec 2) (a : Operand) (c : Ctl) (d : Dest) (j : Cond) : Instr :=
  match c with
  | ⟨false, false, false, false, false, false⟩ => .compCtl000000 ign a d j
  | ⟨false, false, false, false, false, true⟩ => .compCtl000001 ign a d j
  | ⟨false, false, false, false, true, false⟩ => .compCtl000010 ign a d j
  | ⟨false, false, false, false, true, true⟩ => .compCtl000011 ign a d j
  | ⟨false, false, false, true, false, false⟩ => .compCtl000100 ign a d j
  | ⟨false, false, false, true, false, true⟩ => .compCtl000101 ign a d j
  | ⟨false, false, false, true, true, false⟩ => .compCtl000110 ign a d j
  | ⟨false, false, false, true, true, true⟩ => .compCtl000111 ign a d j
  | ⟨false, false, true, false, false, false⟩ => .compCtl001000 ign a d j
  | ⟨false, false, true, false, false, true⟩ => .compCtl001001 ign a d j
  | ⟨false, false, true, false, true, false⟩ => .compCtl001010 ign a d j
  | ⟨false, false, true, false, true, true⟩ => .compCtl001011 ign a d j
  | ⟨false, false, true, true, false, false⟩ => .compCtl001100 ign a d j
  | ⟨false, false, true, true, false, true⟩ => .compCtl001101 ign a d j
  | ⟨false, false, true, true, true, false⟩ => .compCtl001110 ign a d j
  | ⟨false, false, true, true, true, true⟩ => .compCtl001111 ign a d j
  | ⟨false, true, false, false, false, false⟩ => .compCtl010000 ign a d j
  | ⟨false, true, false, false, false, true⟩ => .compCtl010001 ign a d j
  | ⟨false, true, false, false, true, false⟩ => .compCtl010010 ign a d j
  | ⟨false, true, false, false, true, true⟩ => .compCtl010011 ign a d j
  | ⟨false, true, false, true, false, false⟩ => .compCtl010100 ign a d j
  | ⟨false, true, false, true, false, true⟩ => .compCtl010101 ign a d j
  | ⟨false, true, false, true, true, false⟩ => .compCtl010110 ign a d j
  | ⟨false, true, false, true, true, true⟩ => .compCtl010111 ign a d j
  | ⟨false, true, true, false, false, false⟩ => .compCtl011000 ign a d j
  | ⟨false, true, true, false, false, true⟩ => .compCtl011001 ign a d j
  | ⟨false, true, true, false, true, false⟩ => .compCtl011010 ign a d j
  | ⟨false, true, true, false, true, true⟩ => .compCtl011011 ign a d j
  | ⟨false, true, true, true, false, false⟩ => .compCtl011100 ign a d j
  | ⟨false, true, true, true, false, true⟩ => .compCtl011101 ign a d j
  | ⟨false, true, true, true, true, false⟩ => .compCtl011110 ign a d j
  | ⟨false, true, true, true, true, true⟩ => .compCtl011111 ign a d j
  | ⟨true, false, false, false, false, false⟩ => .compCtl100000 ign a d j
  | ⟨true, false, false, false, false, true⟩ => .compCtl100001 ign a d j
  | ⟨true, false, false, false, true, false⟩ => .compCtl100010 ign a d j
  | ⟨true, false, false, false, true, true⟩ => .compCtl100011 ign a d j
  | ⟨true, false, false, true, false, false⟩ => .compCtl100100 ign a d j
  | ⟨true, false, false, true, false, true⟩ => .compCtl100101 ign a d j
  | ⟨true, false, false, true, true, false⟩ => .compCtl100110 ign a d j
  | ⟨true, false, false, true, true, true⟩ => .compCtl100111 ign a d j
  | ⟨true, false, true, false, false, false⟩ => .compCtl101000 ign a d j
  | ⟨true, false, true, false, false, true⟩ => .compCtl101001 ign a d j
  | ⟨true, false, true, false, true, false⟩ => .compCtl101010 ign a d j
  | ⟨true, false, true, false, true, true⟩ => .compCtl101011 ign a d j
  | ⟨true, false, true, true, false, false⟩ => .compCtl101100 ign a d j
  | ⟨true, false, true, true, false, true⟩ => .compCtl101101 ign a d j
  | ⟨true, false, true, true, true, false⟩ => .compCtl101110 ign a d j
  | ⟨true, false, true, true, true, true⟩ => .compCtl101111 ign a d j
  | ⟨true, true, false, false, false, false⟩ => .compCtl110000 ign a d j
  | ⟨true, true, false, false, false, true⟩ => .compCtl110001 ign a d j
  | ⟨true, true, false, false, true, false⟩ => .compCtl110010 ign a d j
  | ⟨true, true, false, false, true, true⟩ => .compCtl110011 ign a d j
  | ⟨true, true, false, true, false, false⟩ => .compCtl110100 ign a d j
  | ⟨true, true, false, true, false, true⟩ => .compCtl110101 ign a d j
  | ⟨true, true, false, true, true, false⟩ => .compCtl110110 ign a d j
  | ⟨true, true, false, true, true, true⟩ => .compCtl110111 ign a d j
  | ⟨true, true, true, false, false, false⟩ => .compCtl111000 ign a d j
  | ⟨true, true, true, false, false, true⟩ => .compCtl111001 ign a d j
  | ⟨true, true, true, false, true, false⟩ => .compCtl111010 ign a d j
  | ⟨true, true, true, false, true, true⟩ => .compCtl111011 ign a d j
  | ⟨true, true, true, true, false, false⟩ => .compCtl111100 ign a d j
  | ⟨true, true, true, true, false, true⟩ => .compCtl111101 ign a d j
  | ⟨true, true, true, true, true, false⟩ => .compCtl111110 ign a d j
  | ⟨true, true, true, true, true, true⟩ => .compCtl111111 ign a d j

/-- The constructor of a destination field's row, `COMP.dest.<dA dD dM>`. -/
def nameDest (ign : BitVec 2) (a : Operand) (c : Ctl) (d : Dest) (j : Cond) : Instr :=
  match d with
  | ⟨false, false, false⟩ => .compDest000 ign a c j
  | ⟨false, false, true⟩ => .compDest001 ign a c j
  | ⟨false, true, false⟩ => .compDest010 ign a c j
  | ⟨false, true, true⟩ => .compDest011 ign a c j
  | ⟨true, false, false⟩ => .compDest100 ign a c j
  | ⟨true, false, true⟩ => .compDest101 ign a c j
  | ⟨true, true, false⟩ => .compDest110 ign a c j
  | ⟨true, true, true⟩ => .compDest111 ign a c j

/-- The constructor of a condition code's row, `COMP.jump.<j2 j1 j0>`. -/
def nameJump (ign : BitVec 2) (a : Operand) (c : Ctl) (d : Dest) (j : Cond) : Instr :=
  match j with
  | ⟨false, false, false⟩ => .compJump000 ign a c d
  | ⟨false, false, true⟩ => .compJump001 ign a c d
  | ⟨false, true, false⟩ => .compJump010 ign a c d
  | ⟨false, true, true⟩ => .compJump011 ign a c d
  | ⟨true, false, false⟩ => .compJump100 ign a c d
  | ⟨true, false, true⟩ => .compJump101 ign a c d
  | ⟨true, true, false⟩ => .compJump110 ign a c d
  | ⟨true, true, true⟩ => .compJump111 ign a c d

/-- The constructor a compute word of control code 000000 is answered as (log entry 1), by which of its other fields
are all zero. -/
def nameZeroCtl (ign : BitVec 2) (a : Operand) (d : Dest) (j : Cond) : Instr :=
  if d = Dest.nowhere then
    if j = Cond.never then
      match a with
      | .regA => .comp ign .regA Ctl.zero d j
      | .mem => .compA1 ign Ctl.zero d j
    else
      match a with
      | .regA => nameJump ign .regA Ctl.zero d j
      | .mem => .compDest000 ign .mem Ctl.zero j
  else
    if j = Cond.never then
      match a with
      | .regA => nameDest ign .regA Ctl.zero d j
      | .mem => .compJump000 ign .mem Ctl.zero d
    else
      match a with
      | .regA => .compA0 ign Ctl.zero d j
      | .mem => .compCtl000000 ign .mem d j

/-- The one constructor a compute word's fields are answered as (log entry 1). -/
def nameComp (c : CompFields) : Instr :=
  if c.ctl = Ctl.zero then nameZeroCtl c.ign c.a c.dest c.cond
  else nameCtl c.ign c.a c.ctl c.dest c.cond

/-- Decoding is total, and bit 15 alone classifies (R60, R91). -/
def decodeWord (w : Word) : Instr :=
  if w.getLsbD 15 then nameComp (CompFields.ofWord w) else .aload (w.extractLsb' 0 15)

/-- A word from its two bytes, the low byte first (log entry 2: the order is the model's own, R44). -/
def wordOfBytes (lo hi : Byte) : Word := hi ++ lo

/-- The two bytes of a word, the low byte first (log entry 2). -/
def bytesOfWord (w : Word) : List Byte := [w.extractLsb' 0 8, w.extractLsb' 8 8]

/-- Decode the first instruction of a byte string, with what is left of it. -/
def decodeBytes : List Byte → Except DecodeError (Instr × List Byte)
  | lo :: hi :: rest => .ok (decodeWord (wordOfBytes lo hi), rest)
  | [_] => .error .truncated
  | [] => .error .truncated

/-- The table numbers a word's bits from its least significant one, as R8 does; an instruction is one word (R60), so
bits from 16 on belong to none. -/
def decodeTableWord (nbits w : Nat) : Option Instr :=
  match decodeBytes (bytesOfWord (BitVec.ofNat 16 (w % 2 ^ nbits))) with
  | .ok (i, _) => some i
  | .error _ => none

/-- The fields of an instruction: the literal of an address-load, or all fields of a compute instruction. -/
def Instr.fields : Instr → BitVec 15 ⊕ CompFields
  | .aload v => .inl v
  | .comp ign a c d j => .inr ⟨ign, a, c, d, j⟩
  | .compA0 ign c d j => .inr ⟨ign, .regA, c, d, j⟩
  | .compA1 ign c d j => .inr ⟨ign, .mem, c, d, j⟩
  | .compCtl000000 ign a d j => .inr ⟨ign, a, ⟨false, false, false, false, false, false⟩, d, j⟩
  | .compCtl000001 ign a d j => .inr ⟨ign, a, ⟨false, false, false, false, false, true⟩, d, j⟩
  | .compCtl000010 ign a d j => .inr ⟨ign, a, ⟨false, false, false, false, true, false⟩, d, j⟩
  | .compCtl000011 ign a d j => .inr ⟨ign, a, ⟨false, false, false, false, true, true⟩, d, j⟩
  | .compCtl000100 ign a d j => .inr ⟨ign, a, ⟨false, false, false, true, false, false⟩, d, j⟩
  | .compCtl000101 ign a d j => .inr ⟨ign, a, ⟨false, false, false, true, false, true⟩, d, j⟩
  | .compCtl000110 ign a d j => .inr ⟨ign, a, ⟨false, false, false, true, true, false⟩, d, j⟩
  | .compCtl000111 ign a d j => .inr ⟨ign, a, ⟨false, false, false, true, true, true⟩, d, j⟩
  | .compCtl001000 ign a d j => .inr ⟨ign, a, ⟨false, false, true, false, false, false⟩, d, j⟩
  | .compCtl001001 ign a d j => .inr ⟨ign, a, ⟨false, false, true, false, false, true⟩, d, j⟩
  | .compCtl001010 ign a d j => .inr ⟨ign, a, ⟨false, false, true, false, true, false⟩, d, j⟩
  | .compCtl001011 ign a d j => .inr ⟨ign, a, ⟨false, false, true, false, true, true⟩, d, j⟩
  | .compCtl001100 ign a d j => .inr ⟨ign, a, ⟨false, false, true, true, false, false⟩, d, j⟩
  | .compCtl001101 ign a d j => .inr ⟨ign, a, ⟨false, false, true, true, false, true⟩, d, j⟩
  | .compCtl001110 ign a d j => .inr ⟨ign, a, ⟨false, false, true, true, true, false⟩, d, j⟩
  | .compCtl001111 ign a d j => .inr ⟨ign, a, ⟨false, false, true, true, true, true⟩, d, j⟩
  | .compCtl010000 ign a d j => .inr ⟨ign, a, ⟨false, true, false, false, false, false⟩, d, j⟩
  | .compCtl010001 ign a d j => .inr ⟨ign, a, ⟨false, true, false, false, false, true⟩, d, j⟩
  | .compCtl010010 ign a d j => .inr ⟨ign, a, ⟨false, true, false, false, true, false⟩, d, j⟩
  | .compCtl010011 ign a d j => .inr ⟨ign, a, ⟨false, true, false, false, true, true⟩, d, j⟩
  | .compCtl010100 ign a d j => .inr ⟨ign, a, ⟨false, true, false, true, false, false⟩, d, j⟩
  | .compCtl010101 ign a d j => .inr ⟨ign, a, ⟨false, true, false, true, false, true⟩, d, j⟩
  | .compCtl010110 ign a d j => .inr ⟨ign, a, ⟨false, true, false, true, true, false⟩, d, j⟩
  | .compCtl010111 ign a d j => .inr ⟨ign, a, ⟨false, true, false, true, true, true⟩, d, j⟩
  | .compCtl011000 ign a d j => .inr ⟨ign, a, ⟨false, true, true, false, false, false⟩, d, j⟩
  | .compCtl011001 ign a d j => .inr ⟨ign, a, ⟨false, true, true, false, false, true⟩, d, j⟩
  | .compCtl011010 ign a d j => .inr ⟨ign, a, ⟨false, true, true, false, true, false⟩, d, j⟩
  | .compCtl011011 ign a d j => .inr ⟨ign, a, ⟨false, true, true, false, true, true⟩, d, j⟩
  | .compCtl011100 ign a d j => .inr ⟨ign, a, ⟨false, true, true, true, false, false⟩, d, j⟩
  | .compCtl011101 ign a d j => .inr ⟨ign, a, ⟨false, true, true, true, false, true⟩, d, j⟩
  | .compCtl011110 ign a d j => .inr ⟨ign, a, ⟨false, true, true, true, true, false⟩, d, j⟩
  | .compCtl011111 ign a d j => .inr ⟨ign, a, ⟨false, true, true, true, true, true⟩, d, j⟩
  | .compCtl100000 ign a d j => .inr ⟨ign, a, ⟨true, false, false, false, false, false⟩, d, j⟩
  | .compCtl100001 ign a d j => .inr ⟨ign, a, ⟨true, false, false, false, false, true⟩, d, j⟩
  | .compCtl100010 ign a d j => .inr ⟨ign, a, ⟨true, false, false, false, true, false⟩, d, j⟩
  | .compCtl100011 ign a d j => .inr ⟨ign, a, ⟨true, false, false, false, true, true⟩, d, j⟩
  | .compCtl100100 ign a d j => .inr ⟨ign, a, ⟨true, false, false, true, false, false⟩, d, j⟩
  | .compCtl100101 ign a d j => .inr ⟨ign, a, ⟨true, false, false, true, false, true⟩, d, j⟩
  | .compCtl100110 ign a d j => .inr ⟨ign, a, ⟨true, false, false, true, true, false⟩, d, j⟩
  | .compCtl100111 ign a d j => .inr ⟨ign, a, ⟨true, false, false, true, true, true⟩, d, j⟩
  | .compCtl101000 ign a d j => .inr ⟨ign, a, ⟨true, false, true, false, false, false⟩, d, j⟩
  | .compCtl101001 ign a d j => .inr ⟨ign, a, ⟨true, false, true, false, false, true⟩, d, j⟩
  | .compCtl101010 ign a d j => .inr ⟨ign, a, ⟨true, false, true, false, true, false⟩, d, j⟩
  | .compCtl101011 ign a d j => .inr ⟨ign, a, ⟨true, false, true, false, true, true⟩, d, j⟩
  | .compCtl101100 ign a d j => .inr ⟨ign, a, ⟨true, false, true, true, false, false⟩, d, j⟩
  | .compCtl101101 ign a d j => .inr ⟨ign, a, ⟨true, false, true, true, false, true⟩, d, j⟩
  | .compCtl101110 ign a d j => .inr ⟨ign, a, ⟨true, false, true, true, true, false⟩, d, j⟩
  | .compCtl101111 ign a d j => .inr ⟨ign, a, ⟨true, false, true, true, true, true⟩, d, j⟩
  | .compCtl110000 ign a d j => .inr ⟨ign, a, ⟨true, true, false, false, false, false⟩, d, j⟩
  | .compCtl110001 ign a d j => .inr ⟨ign, a, ⟨true, true, false, false, false, true⟩, d, j⟩
  | .compCtl110010 ign a d j => .inr ⟨ign, a, ⟨true, true, false, false, true, false⟩, d, j⟩
  | .compCtl110011 ign a d j => .inr ⟨ign, a, ⟨true, true, false, false, true, true⟩, d, j⟩
  | .compCtl110100 ign a d j => .inr ⟨ign, a, ⟨true, true, false, true, false, false⟩, d, j⟩
  | .compCtl110101 ign a d j => .inr ⟨ign, a, ⟨true, true, false, true, false, true⟩, d, j⟩
  | .compCtl110110 ign a d j => .inr ⟨ign, a, ⟨true, true, false, true, true, false⟩, d, j⟩
  | .compCtl110111 ign a d j => .inr ⟨ign, a, ⟨true, true, false, true, true, true⟩, d, j⟩
  | .compCtl111000 ign a d j => .inr ⟨ign, a, ⟨true, true, true, false, false, false⟩, d, j⟩
  | .compCtl111001 ign a d j => .inr ⟨ign, a, ⟨true, true, true, false, false, true⟩, d, j⟩
  | .compCtl111010 ign a d j => .inr ⟨ign, a, ⟨true, true, true, false, true, false⟩, d, j⟩
  | .compCtl111011 ign a d j => .inr ⟨ign, a, ⟨true, true, true, false, true, true⟩, d, j⟩
  | .compCtl111100 ign a d j => .inr ⟨ign, a, ⟨true, true, true, true, false, false⟩, d, j⟩
  | .compCtl111101 ign a d j => .inr ⟨ign, a, ⟨true, true, true, true, false, true⟩, d, j⟩
  | .compCtl111110 ign a d j => .inr ⟨ign, a, ⟨true, true, true, true, true, false⟩, d, j⟩
  | .compCtl111111 ign a d j => .inr ⟨ign, a, ⟨true, true, true, true, true, true⟩, d, j⟩
  | .compDest000 ign a c j => .inr ⟨ign, a, c, ⟨false, false, false⟩, j⟩
  | .compDest001 ign a c j => .inr ⟨ign, a, c, ⟨false, false, true⟩, j⟩
  | .compDest010 ign a c j => .inr ⟨ign, a, c, ⟨false, true, false⟩, j⟩
  | .compDest011 ign a c j => .inr ⟨ign, a, c, ⟨false, true, true⟩, j⟩
  | .compDest100 ign a c j => .inr ⟨ign, a, c, ⟨true, false, false⟩, j⟩
  | .compDest101 ign a c j => .inr ⟨ign, a, c, ⟨true, false, true⟩, j⟩
  | .compDest110 ign a c j => .inr ⟨ign, a, c, ⟨true, true, false⟩, j⟩
  | .compDest111 ign a c j => .inr ⟨ign, a, c, ⟨true, true, true⟩, j⟩
  | .compJump000 ign a c d => .inr ⟨ign, a, c, d, ⟨false, false, false⟩⟩
  | .compJump001 ign a c d => .inr ⟨ign, a, c, d, ⟨false, false, true⟩⟩
  | .compJump010 ign a c d => .inr ⟨ign, a, c, d, ⟨false, true, false⟩⟩
  | .compJump011 ign a c d => .inr ⟨ign, a, c, d, ⟨false, true, true⟩⟩
  | .compJump100 ign a c d => .inr ⟨ign, a, c, d, ⟨true, false, false⟩⟩
  | .compJump101 ign a c d => .inr ⟨ign, a, c, d, ⟨true, false, true⟩⟩
  | .compJump110 ign a c d => .inr ⟨ign, a, c, d, ⟨true, true, false⟩⟩
  | .compJump111 ign a c d => .inr ⟨ign, a, c, d, ⟨true, true, true⟩⟩

/-- The word of an address-load: the type bit 0, then the literal (R61). -/
def packLiteral (v : BitVec 15) : Word := BitVec.cast (by decide) (0#1 ++ v)

/-- The word of a compute instruction, bit 15 first, in the order of R62's table. -/
def CompFields.pack (c : CompFields) : Word :=
  BitVec.cast (by decide) (1#1 ++ c.ign ++ BitVec.ofBool c.a.bit ++
    BitVec.ofBool c.ctl.zx ++ BitVec.ofBool c.ctl.nx ++ BitVec.ofBool c.ctl.zy ++
    BitVec.ofBool c.ctl.ny ++ BitVec.ofBool c.ctl.f ++ BitVec.ofBool c.ctl.no ++
    BitVec.ofBool c.dest.dA ++ BitVec.ofBool c.dest.dD ++ BitVec.ofBool c.dest.dM ++
    BitVec.ofBool c.cond.j2 ++ BitVec.ofBool c.cond.j1 ++ BitVec.ofBool c.cond.j0)

/-- The one word of an instruction (R60). -/
def encode (i : Instr) : Word :=
  match i.fields with
  | .inl v => packLiteral v
  | .inr c => c.pack

/-- The bytes of an instruction's word, in the order `decodeBytes` reads them. -/
def encodeBytes (i : Instr) : List Byte := bytesOfWord (encode i)

end Sys2Proof
end

