-- ==== Sys2Proof/Config.lean ====
section
/-! DEFINITION. What an implementation fixes (R6): the shape of the ALU parameter and the law every instance obeys, and
the contents of registers and memories before tick 0. -/

namespace Sys2Proof

/-- What the ALU returns: the result and the two condition signals (R170). -/
structure AluOut where
  out : Word
  zero : Bool
  negative : Bool
  deriving DecidableEq, Repr

/-- The parameter `ALU` of R170: a total, stateless function of two operands and the six control bits. -/
abbrev Alu := Word → Word → Ctl → AluOut

/-- The flag law every instance obeys (R171): `zero` is the result being 0, `negative` its bit 15. -/
def Alu.FlagLaw (alu : Alu) : Prop :=
  ∀ x y c, (alu x y c).zero = decide ((alu x y c).out = 0) ∧ (alu x y c).negative = (alu x y c).out.getLsbD 15

/-- `INIT_A`, A before tick 0: the spec's default (R32, log entry 4). -/
def Config.initA : Word := 0

/-- `INIT_D`, D before tick 0: the spec's default (R32, log entry 4). -/
def Config.initD : Word := 0

/-- `INIT_PC`, PC before tick 0: the spec's default (R32, log entry 4). -/
def Config.initPc : Addr := 0

/-- What a byte that a memory list does not name reads as: `DM0`, and the words of `IM` that the program leaves unset
(log entry 5). -/
def Config.unlistedByte : Byte := 0

/-- The `reset` input in the ticks a schedule does not name (R6, log entry 6). -/
def Config.unlistedReset : Bool := false

end Sys2Proof
end

