-- ==== Sys2Proof/Machine/Flags.lean ====
section
/-! DEFINITION. The two condition signals (R171) and the branch evaluator that reads them (R150). Neither is stored:
they are values of one tick (R25). -/

namespace Sys2Proof.Machine

/-- `zero` of R171. -/
def zeroFlag (out : Word) : Bool := out == 0

/-- `negative` of R171. -/
def negativeFlag (out : Word) : Bool := out.getLsbD 15

/-- `BranchEval` (R150), for every combination of the flags, the one no ALU gives among them (R151). -/
def branchEval (isCompute : Bool) (cond : Cond) (zero negative : Bool) : Bool :=
  let positive := !zero && !negative
  isCompute && ((cond.j2 && negative) || (cond.j1 && zero) || (cond.j0 && positive))

end Sys2Proof.Machine
end

