-- ==== Sys2Proof/Machine/State.lean ====
section
/-! DEFINITION. The state of the closed reference machine (R58) as plain data, and its launch state (R285).

The core's own state is the triple A, D, PC and nothing else (R20): no flags (R25), no system register (R26), nothing
hidden (R28). Beside it stand what the reference environment owns: the data memory DM, the instruction memory IM, and
the values the `reset` input is going to take. -/

namespace Sys2Proof.Machine

/-- A memory as a list of bytes at byte addresses: the word at word address n lies at byte addresses 2n (its low byte)
and 2n + 1 (its high byte); see log entry 2. `Memory.wf` in Ops.lean says what its one canonical form is. -/
abbrev Memory := List Host.Cell

/-- The state of the closed machine between two ticks. -/
structure State where
  /-- Register A (R21). -/
  a : Word
  /-- Register D (R22). -/
  d : Word
  /-- The program counter (R24): the address of the instruction of the coming tick. -/
  pc : Addr
  /-- The data memory DM of the reference environment (R48). -/
  dm : Memory
  /-- The instruction memory IM of the reference environment (R47); no step writes it. -/
  im : Memory
  /-- The `reset` input (R270) in the coming tick, the tick after it, and so on; past its end the input is
  `Config.unlistedReset` (log entry 6). -/
  resetIn : List Bool
  deriving DecidableEq, Repr

/-- The hardware raises nothing (R250, R266): there is no fault. -/
inductive Fault where
  deriving DecidableEq, Repr

/-- The refusal type of the core is empty (R266): the core refuses nothing (R103). -/
inductive CoreRefusal where
  deriving DecidableEq, Repr

/-- The refusals of the host's outcome type, which is wider than the core's (R266): no step answers one. -/
inductive Refusal where
  /-- An instruction whose meaning is not written yet, named by its mnemonic.
  Only an arm of `exec` may raise it, none does, and it would be safe.
  The host's form asks for the constructor (log entry 19). -/
  | notModelled (mnemonic : String)
  deriving DecidableEq, Repr

/-- The launch state (R285): registers and PC at their initial values (R32), no word of either memory listed, and no
reset coming. A reset tick leaves PC at the same 0 and does not touch A, D or memory (R33). -/
def State.reset : State where
  a := Config.initA
  d := Config.initD
  pc := Config.initPc
  dm := []
  im := []
  resetIn := []

end Sys2Proof.Machine
end

