-- ==== Sys2Proof/Machine/Ops.lean ====
section
/-! DEFINITION. The named operations over memory and registers that every meaning is written with: bytes and words of
a memory, the address and the word the core sees in a tick, fetching and placing an instruction, and the clocked
commit (R102), the one operation that writes a register.

The hardware has no exception, no interrupt, no trap and no return from one (R250, R254, R257, R259), so there is no
operation that takes or ends an exception. Its one external event is `reset`, and `State.nextPc` is where it acts
(R255, R271). -/

namespace Sys2Proof.Machine

/-- The byte at a byte address. -/
def Memory.byteAt : Memory → Nat → Byte
  | [], _ => Config.unlistedByte
  | (k, v) :: rest, n => if k = n then v else Memory.byteAt rest n

/-- Write one byte, keeping the canonical form: a byte that reads as unlisted is not listed. -/
def Memory.setByte : Memory → Nat → Byte → Memory
  | [], n, b => if b = Config.unlistedByte then [] else [(n, b)]
  | (k, v) :: rest, n, b =>
    if n < k then
      if b = Config.unlistedByte then (k, v) :: rest else (n, b) :: (k, v) :: rest
    else if n = k then
      if b = Config.unlistedByte then rest else (n, b) :: rest
    else (k, v) :: Memory.setByte rest n b

/-- Cells from `lo` on, strictly rising, none above the address space of 2^15 words (R43), none that reads as
unlisted. -/
def Memory.wfFrom : Nat → Memory → Bool
  | _, [] => true
  | lo, (k, v) :: rest =>
    decide (lo ≤ k) && decide (k < 65536) && v != Config.unlistedByte && Memory.wfFrom (k + 1) rest

/-- The one canonical form of a memory: equal memories are equal lists. -/
def Memory.wf (m : Memory) : Bool := Memory.wfFrom 0 m

/-- The byte address of a word's low byte; its high byte is the next (log entry 2). -/
def Memory.lowByteAddr (n : Addr) : Nat := 2 * n.toNat

/-- The word at a word address: the word accesses of R46 are the only ones there are. -/
def Memory.readWord (m : Memory) (n : Addr) : Word :=
  Memory.byteAt m (Memory.lowByteAddr n + 1) ++ Memory.byteAt m (Memory.lowByteAddr n)

/-- Write a word at a word address; every other word keeps its value (R49). -/
def Memory.writeWord (m : Memory) (n : Addr) (w : Word) : Memory :=
  Memory.setByte (Memory.setByte m (Memory.lowByteAddr n) (w.extractLsb' 0 8))
    (Memory.lowByteAddr n + 1) (w.extractLsb' 8 8)

/-- The 15 bits of a word that form an address or a jump target: bits 14 down to 0 (R24, R41). -/
def lowAddr (w : Word) : Addr := w.extractLsb' 0 15

/-- A 15-bit value widened by a zero bit 15 (R68). -/
def zextWord (v : BitVec 15) : Word := v.zeroExtend 16

/-- `memory_address` (R41, R98): the A of before this tick's commit. -/
def State.memAddr (s : State) : Addr := lowAddr s.a

/-- `memory_data_in` (R42, R48): the data word at the current address, before this tick's commit. -/
def State.dataIn (s : State) : Word := Memory.readWord s.dm s.memAddr

/-- `instruction` (R47): the word of the instruction memory at PC. -/
def State.fetchWord (s : State) : Word := Memory.readWord s.im s.pc

/-- The state with `w` as the instruction word at PC, as a program loader would leave it (R47, log entry 7). -/
def State.placeWord (s : State) (w : Word) : State := { s with im := Memory.writeWord s.im s.pc w }

/-- The `reset` input of the coming tick (R270). -/
def State.resetLine (s : State) : Bool := s.resetIn.headD Config.unlistedReset

/-- `pc_next` (R100): reset over jump over increment, the target being the A of before the commit and the increment
modulo 2^15 (R24). -/
def State.nextPc (s : State) (jump : Bool) : Addr :=
  if s.resetLine then 0 else if jump then s.memAddr else s.pc + 1

/-- What an instruction asks of the commit: the values to load into A and D, the word to store at the current address,
each if any, and the jump decision. -/
structure Effect where
  setA : Option Word
  setD : Option Word
  store : Option Word
  jump : Bool
  deriving DecidableEq, Repr

/-- The clocked commit (R102, R49): A, D, PC and the data memory change together, every new value computed from the
state of before (R29). The instruction memory is never written (R47). The reset input moves on by one tick. -/
def State.commit (s : State) (e : Effect) : State where
  a := e.setA.getD s.a
  d := e.setD.getD s.d
  pc := s.nextPc e.jump
  dm := match e.store with
    | none => s.dm
    | some w => Memory.writeWord s.dm s.memAddr w
  im := s.im
  resetIn := s.resetIn.tail

end Sys2Proof.Machine
end

