-- ==== Sys2Proof/Machine/AddressLoad.lean ====
section
/-! DEFINITION. The address-load instruction (R120). -/

namespace Sys2Proof.Machine

/-- R120: A takes the literal with bit 15 zero; D and memory keep their values; no jump, whatever the flags (R99).
The ALU runs in this tick too, and reaches nothing but the don't-care `memory_data_out` (R122): see Network.lean. -/
def execAload (value : BitVec 15) (s : State) : Host.Outcome State Fault Refusal :=
  .next (s.commit { setA := some (zextWord value), setD := none, store := none, jump := false })

end Sys2Proof.Machine
end

