-- ==== Sys2Proof/Machine/Alu.lean ====
section
/-! DEFINITION. The reference ALU (R173), and the ALU the CPU is wired to.

The source leaves the ALU's function open (R170): everything else in this model is written for any `Alu`, and
`cpuAlu` is the one place that picks an instance (log entry 3). -/

namespace Sys2Proof.Machine

/-- Conditioning of one ALU input (R173): zeroed, then complemented. -/
def conditionInput (v : Word) (zeroed complemented : Bool) : Word :=
  let v1 := if zeroed then 0 else v
  if complemented then ~~~v1 else v1

/-- The result word of `REF_ALU` (R173). -/
def refAluResult (x y : Word) (c : Ctl) : Word :=
  let x2 := conditionInput x c.zx c.nx
  let y2 := conditionInput y c.zy c.ny
  let r := if c.f then x2 + y2 else x2 &&& y2
  if c.no then ~~~r else r

/-- `REF_ALU` (R173). -/
def refAlu : Alu := fun x y c =>
  let out := refAluResult x y c
  { out := out, zero := zeroFlag out, negative := negativeFlag out }

/-- The ALU the CPU is wired to: the spec's default instance of the parameter (R6, log entry 3). -/
def cpuAlu : Alu := refAlu

end Sys2Proof.Machine
end

