-- ==== Sys2Proof/Machine/Operands.lean ====
section
/-! DEFINITION. The ALU's two operands (R92): every operand form there is. -/

namespace Sys2Proof.Machine

/-- The first operand is always D (R92). -/
def State.operandX (s : State) : Word := s.d

/-- The second operand: all 16 bits of A (R125), or the data word at A[14:0] (R126). -/
def State.operandY (s : State) (a : Operand) : Word :=
  match a with
  | .regA => s.a
  | .mem => s.dataIn

end Sys2Proof.Machine
end

