-- ==== Sys2Proof/Machine/Compute.lean ====
section
/-! DEFINITION. The compute instruction (R127), its operand-select rows (R125, R126) and its eight destination rows
(R131 to R138). Every meaning is one use of `compute`, which is R127 once, for any ALU. -/

namespace Sys2Proof.Machine

/-- What one compute instruction asks of the commit (R127): the ALU's result goes to each selected destination, and
the branch evaluator reads the flags of this same result (R25, R99). -/
def computeEffect (alu : Alu) (a : Operand) (ctl : Ctl) (dest : Dest) (cond : Cond) (s : State) : Effect :=
  let r := alu s.operandX (s.operandY a) ctl
  { setA := if dest.dA then some r.out else none
    setD := if dest.dD then some r.out else none
    store := if dest.dM then some r.out else none
    jump := branchEval true cond r.zero r.negative }

/-- The compute instruction (R127), for any ALU (R170). -/
def compute (alu : Alu) (a : Operand) (ctl : Ctl) (dest : Dest) (cond : Cond) (s : State) : State :=
  s.commit (computeEffect alu a ctl dest cond s)

/-- R127: `COMP a, ctl, dest, cond`. -/
def execComp (a : Operand) (ctl : Ctl) (dest : Dest) (cond : Cond) (s : State) : Host.Outcome State Fault Refusal :=
  .next (compute cpuAlu a ctl dest cond s)

/-- R125: the second operand is A, all 16 bits of it. -/
def execCompA0 (ctl : Ctl) (dest : Dest) (cond : Cond) (s : State) : Host.Outcome State Fault Refusal :=
  .next (compute cpuAlu .regA ctl dest cond s)

/-- R126: the second operand is the data word at A[14:0]; the machine's load. -/
def execCompA1 (ctl : Ctl) (dest : Dest) (cond : Cond) (s : State) : Host.Outcome State Fault Refusal :=
  .next (compute cpuAlu .mem ctl dest cond s)

/-- R131: destination field 000. -/
def execCompDest000 (a : Operand) (ctl : Ctl) (cond : Cond) (s : State) : Host.Outcome State Fault Refusal :=
  .next (compute cpuAlu a ctl ⟨false, false, false⟩ cond s)

/-- R132: destination field 001. -/
def execCompDest001 (a : Operand) (ctl : Ctl) (cond : Cond) (s : State) : Host.Outcome State Fault Refusal :=
  .next (compute cpuAlu a ctl ⟨false, false, true⟩ cond s)

/-- R133: destination field 010. -/
def execCompDest010 (a : Operand) (ctl : Ctl) (cond : Cond) (s : State) : Host.Outcome State Fault Refusal :=
  .next (compute cpuAlu a ctl ⟨false, true, false⟩ cond s)

/-- R134: destination field 011. -/
def execCompDest011 (a : Operand) (ctl : Ctl) (cond : Cond) (s : State) : Host.Outcome State Fault Refusal :=
  .next (compute cpuAlu a ctl ⟨false, true, true⟩ cond s)

/-- R135: destination field 100. -/
def execCompDest100 (a : Operand) (ctl : Ctl) (cond : Cond) (s : State) : Host.Outcome State Fault Refusal :=
  .next (compute cpuAlu a ctl ⟨true, false, false⟩ cond s)

/-- R136: destination field 101. -/
def execCompDest101 (a : Operand) (ctl : Ctl) (cond : Cond) (s : State) : Host.Outcome State Fault Refusal :=
  .next (compute cpuAlu a ctl ⟨true, false, true⟩ cond s)

/-- R137: destination field 110. -/
def execCompDest110 (a : Operand) (ctl : Ctl) (cond : Cond) (s : State) : Host.Outcome State Fault Refusal :=
  .next (compute cpuAlu a ctl ⟨true, true, false⟩ cond s)

/-- R138: destination field 111. -/
def execCompDest111 (a : Operand) (ctl : Ctl) (cond : Cond) (s : State) : Host.Outcome State Fault Refusal :=
  .next (compute cpuAlu a ctl ⟨true, true, true⟩ cond s)

end Sys2Proof.Machine
end

