-- ==== Sys2Proof/Machine/AluCodes.lean ====
section
/-! DEFINITION. The meanings of the 64 rows that fix the control code, COMP.ctl.000000 to COMP.ctl.111111 (R176 to
R239): the six control bits are the row's, everything else an operand; the function is that of the ALU the CPU is
wired to, `cpuAlu` (log entry 3). -/

namespace Sys2Proof.Machine

/-- R176: zx=0 nx=0 zy=0 ny=0 f=0 no=0, the result is x & y. -/
def execCompCtl000000 (a : Operand) (dest : Dest) (cond : Cond) (s : State) : Host.Outcome State Fault Refusal :=
  .next (compute cpuAlu a ⟨false, false, false, false, false, false⟩ dest cond s)

/-- R177: zx=0 nx=0 zy=0 ny=0 f=0 no=1, the result is ~(x & y). -/
def execCompCtl000001 (a : Operand) (dest : Dest) (cond : Cond) (s : State) : Host.Outcome State Fault Refusal :=
  .next (compute cpuAlu a ⟨false, false, false, false, false, true⟩ dest cond s)

/-- R178: zx=0 nx=0 zy=0 ny=0 f=1 no=0, the result is x + y. -/
def execCompCtl000010 (a : Operand) (dest : Dest) (cond : Cond) (s : State) : Host.Outcome State Fault Refusal :=
  .next (compute cpuAlu a ⟨false, false, false, false, true, false⟩ dest cond s)

/-- R179: zx=0 nx=0 zy=0 ny=0 f=1 no=1, the result is -x - y - 1. -/
def execCompCtl000011 (a : Operand) (dest : Dest) (cond : Cond) (s : State) : Host.Outcome State Fault Refusal :=
  .next (compute cpuAlu a ⟨false, false, false, false, true, true⟩ dest cond s)

/-- R180: zx=0 nx=0 zy=0 ny=1 f=0 no=0, the result is x & ~y. -/
def execCompCtl000100 (a : Operand) (dest : Dest) (cond : Cond) (s : State) : Host.Outcome State Fault Refusal :=
  .next (compute cpuAlu a ⟨false, false, false, true, false, false⟩ dest cond s)

/-- R181: zx=0 nx=0 zy=0 ny=1 f=0 no=1, the result is ~x OR y. -/
def execCompCtl000101 (a : Operand) (dest : Dest) (cond : Cond) (s : State) : Host.Outcome State Fault Refusal :=
  .next (compute cpuAlu a ⟨false, false, false, true, false, true⟩ dest cond s)

/-- R182: zx=0 nx=0 zy=0 ny=1 f=1 no=0, the result is x - y - 1. -/
def execCompCtl000110 (a : Operand) (dest : Dest) (cond : Cond) (s : State) : Host.Outcome State Fault Refusal :=
  .next (compute cpuAlu a ⟨false, false, false, true, true, false⟩ dest cond s)

/-- R183: zx=0 nx=0 zy=0 ny=1 f=1 no=1, the result is y - x. -/
def execCompCtl000111 (a : Operand) (dest : Dest) (cond : Cond) (s : State) : Host.Outcome State Fault Refusal :=
  .next (compute cpuAlu a ⟨false, false, false, true, true, true⟩ dest cond s)

/-- R184: zx=0 nx=0 zy=1 ny=0 f=0 no=0, the result is 0. -/
def execCompCtl001000 (a : Operand) (dest : Dest) (cond : Cond) (s : State) : Host.Outcome State Fault Refusal :=
  .next (compute cpuAlu a ⟨false, false, true, false, false, false⟩ dest cond s)

/-- R185: zx=0 nx=0 zy=1 ny=0 f=0 no=1, the result is -1. -/
def execCompCtl001001 (a : Operand) (dest : Dest) (cond : Cond) (s : State) : Host.Outcome State Fault Refusal :=
  .next (compute cpuAlu a ⟨false, false, true, false, false, true⟩ dest cond s)

/-- R186: zx=0 nx=0 zy=1 ny=0 f=1 no=0, the result is x. -/
def execCompCtl001010 (a : Operand) (dest : Dest) (cond : Cond) (s : State) : Host.Outcome State Fault Refusal :=
  .next (compute cpuAlu a ⟨false, false, true, false, true, false⟩ dest cond s)

/-- R187: zx=0 nx=0 zy=1 ny=0 f=1 no=1, the result is ~x. -/
def execCompCtl001011 (a : Operand) (dest : Dest) (cond : Cond) (s : State) : Host.Outcome State Fault Refusal :=
  .next (compute cpuAlu a ⟨false, false, true, false, true, true⟩ dest cond s)

/-- R188: zx=0 nx=0 zy=1 ny=1 f=0 no=0, the result is x. -/
def execCompCtl001100 (a : Operand) (dest : Dest) (cond : Cond) (s : State) : Host.Outcome State Fault Refusal :=
  .next (compute cpuAlu a ⟨false, false, true, true, false, false⟩ dest cond s)

/-- R189: zx=0 nx=0 zy=1 ny=1 f=0 no=1, the result is ~x. -/
def execCompCtl001101 (a : Operand) (dest : Dest) (cond : Cond) (s : State) : Host.Outcome State Fault Refusal :=
  .next (compute cpuAlu a ⟨false, false, true, true, false, true⟩ dest cond s)

/-- R190: zx=0 nx=0 zy=1 ny=1 f=1 no=0, the result is x - 1. -/
def execCompCtl001110 (a : Operand) (dest : Dest) (cond : Cond) (s : State) : Host.Outcome State Fault Refusal :=
  .next (compute cpuAlu a ⟨false, false, true, true, true, false⟩ dest cond s)

/-- R191: zx=0 nx=0 zy=1 ny=1 f=1 no=1, the result is -x. -/
def execCompCtl001111 (a : Operand) (dest : Dest) (cond : Cond) (s : State) : Host.Outcome State Fault Refusal :=
  .next (compute cpuAlu a ⟨false, false, true, true, true, true⟩ dest cond s)

/-- R192: zx=0 nx=1 zy=0 ny=0 f=0 no=0, the result is ~x & y. -/
def execCompCtl010000 (a : Operand) (dest : Dest) (cond : Cond) (s : State) : Host.Outcome State Fault Refusal :=
  .next (compute cpuAlu a ⟨false, true, false, false, false, false⟩ dest cond s)

/-- R193: zx=0 nx=1 zy=0 ny=0 f=0 no=1, the result is x OR ~y. -/
def execCompCtl010001 (a : Operand) (dest : Dest) (cond : Cond) (s : State) : Host.Outcome State Fault Refusal :=
  .next (compute cpuAlu a ⟨false, true, false, false, false, true⟩ dest cond s)

/-- R194: zx=0 nx=1 zy=0 ny=0 f=1 no=0, the result is y - x - 1. -/
def execCompCtl010010 (a : Operand) (dest : Dest) (cond : Cond) (s : State) : Host.Outcome State Fault Refusal :=
  .next (compute cpuAlu a ⟨false, true, false, false, true, false⟩ dest cond s)

/-- R195: zx=0 nx=1 zy=0 ny=0 f=1 no=1, the result is x - y. -/
def execCompCtl010011 (a : Operand) (dest : Dest) (cond : Cond) (s : State) : Host.Outcome State Fault Refusal :=
  .next (compute cpuAlu a ⟨false, true, false, false, true, true⟩ dest cond s)

/-- R196: zx=0 nx=1 zy=0 ny=1 f=0 no=0, the result is ~(x OR y). -/
def execCompCtl010100 (a : Operand) (dest : Dest) (cond : Cond) (s : State) : Host.Outcome State Fault Refusal :=
  .next (compute cpuAlu a ⟨false, true, false, true, false, false⟩ dest cond s)

/-- R197: zx=0 nx=1 zy=0 ny=1 f=0 no=1, the result is x OR y. -/
def execCompCtl010101 (a : Operand) (dest : Dest) (cond : Cond) (s : State) : Host.Outcome State Fault Refusal :=
  .next (compute cpuAlu a ⟨false, true, false, true, false, true⟩ dest cond s)

/-- R198: zx=0 nx=1 zy=0 ny=1 f=1 no=0, the result is -x - y - 2. -/
def execCompCtl010110 (a : Operand) (dest : Dest) (cond : Cond) (s : State) : Host.Outcome State Fault Refusal :=
  .next (compute cpuAlu a ⟨false, true, false, true, true, false⟩ dest cond s)

/-- R199: zx=0 nx=1 zy=0 ny=1 f=1 no=1, the result is x + y + 1. -/
def execCompCtl010111 (a : Operand) (dest : Dest) (cond : Cond) (s : State) : Host.Outcome State Fault Refusal :=
  .next (compute cpuAlu a ⟨false, true, false, true, true, true⟩ dest cond s)

/-- R200: zx=0 nx=1 zy=1 ny=0 f=0 no=0, the result is 0. -/
def execCompCtl011000 (a : Operand) (dest : Dest) (cond : Cond) (s : State) : Host.Outcome State Fault Refusal :=
  .next (compute cpuAlu a ⟨false, true, true, false, false, false⟩ dest cond s)

/-- R201: zx=0 nx=1 zy=1 ny=0 f=0 no=1, the result is -1. -/
def execCompCtl011001 (a : Operand) (dest : Dest) (cond : Cond) (s : State) : Host.Outcome State Fault Refusal :=
  .next (compute cpuAlu a ⟨false, true, true, false, false, true⟩ dest cond s)

/-- R202: zx=0 nx=1 zy=1 ny=0 f=1 no=0, the result is ~x. -/
def execCompCtl011010 (a : Operand) (dest : Dest) (cond : Cond) (s : State) : Host.Outcome State Fault Refusal :=
  .next (compute cpuAlu a ⟨false, true, true, false, true, false⟩ dest cond s)

/-- R203: zx=0 nx=1 zy=1 ny=0 f=1 no=1, the result is x. -/
def execCompCtl011011 (a : Operand) (dest : Dest) (cond : Cond) (s : State) : Host.Outcome State Fault Refusal :=
  .next (compute cpuAlu a ⟨false, true, true, false, true, true⟩ dest cond s)

/-- R204: zx=0 nx=1 zy=1 ny=1 f=0 no=0, the result is ~x. -/
def execCompCtl011100 (a : Operand) (dest : Dest) (cond : Cond) (s : State) : Host.Outcome State Fault Refusal :=
  .next (compute cpuAlu a ⟨false, true, true, true, false, false⟩ dest cond s)

/-- R205: zx=0 nx=1 zy=1 ny=1 f=0 no=1, the result is x. -/
def execCompCtl011101 (a : Operand) (dest : Dest) (cond : Cond) (s : State) : Host.Outcome State Fault Refusal :=
  .next (compute cpuAlu a ⟨false, true, true, true, false, true⟩ dest cond s)

/-- R206: zx=0 nx=1 zy=1 ny=1 f=1 no=0, the result is -x - 2. -/
def execCompCtl011110 (a : Operand) (dest : Dest) (cond : Cond) (s : State) : Host.Outcome State Fault Refusal :=
  .next (compute cpuAlu a ⟨false, true, true, true, true, false⟩ dest cond s)

/-- R207: zx=0 nx=1 zy=1 ny=1 f=1 no=1, the result is x + 1. -/
def execCompCtl011111 (a : Operand) (dest : Dest) (cond : Cond) (s : State) : Host.Outcome State Fault Refusal :=
  .next (compute cpuAlu a ⟨false, true, true, true, true, true⟩ dest cond s)

/-- R208: zx=1 nx=0 zy=0 ny=0 f=0 no=0, the result is 0. -/
def execCompCtl100000 (a : Operand) (dest : Dest) (cond : Cond) (s : State) : Host.Outcome State Fault Refusal :=
  .next (compute cpuAlu a ⟨true, false, false, false, false, false⟩ dest cond s)

/-- R209: zx=1 nx=0 zy=0 ny=0 f=0 no=1, the result is -1. -/
def execCompCtl100001 (a : Operand) (dest : Dest) (cond : Cond) (s : State) : Host.Outcome State Fault Refusal :=
  .next (compute cpuAlu a ⟨true, false, false, false, false, true⟩ dest cond s)

/-- R210: zx=1 nx=0 zy=0 ny=0 f=1 no=0, the result is y. -/
def execCompCtl100010 (a : Operand) (dest : Dest) (cond : Cond) (s : State) : Host.Outcome State Fault Refusal :=
  .next (compute cpuAlu a ⟨true, false, false, false, true, false⟩ dest cond s)

/-- R211: zx=1 nx=0 zy=0 ny=0 f=1 no=1, the result is ~y. -/
def execCompCtl100011 (a : Operand) (dest : Dest) (cond : Cond) (s : State) : Host.Outcome State Fault Refusal :=
  .next (compute cpuAlu a ⟨true, false, false, false, true, true⟩ dest cond s)

/-- R212: zx=1 nx=0 zy=0 ny=1 f=0 no=0, the result is 0. -/
def execCompCtl100100 (a : Operand) (dest : Dest) (cond : Cond) (s : State) : Host.Outcome State Fault Refusal :=
  .next (compute cpuAlu a ⟨true, false, false, true, false, false⟩ dest cond s)

/-- R213: zx=1 nx=0 zy=0 ny=1 f=0 no=1, the result is -1. -/
def execCompCtl100101 (a : Operand) (dest : Dest) (cond : Cond) (s : State) : Host.Outcome State Fault Refusal :=
  .next (compute cpuAlu a ⟨true, false, false, true, false, true⟩ dest cond s)

/-- R214: zx=1 nx=0 zy=0 ny=1 f=1 no=0, the result is ~y. -/
def execCompCtl100110 (a : Operand) (dest : Dest) (cond : Cond) (s : State) : Host.Outcome State Fault Refusal :=
  .next (compute cpuAlu a ⟨true, false, false, true, true, false⟩ dest cond s)

/-- R215: zx=1 nx=0 zy=0 ny=1 f=1 no=1, the result is y. -/
def execCompCtl100111 (a : Operand) (dest : Dest) (cond : Cond) (s : State) : Host.Outcome State Fault Refusal :=
  .next (compute cpuAlu a ⟨true, false, false, true, true, true⟩ dest cond s)

/-- R216: zx=1 nx=0 zy=1 ny=0 f=0 no=0, the result is 0. -/
def execCompCtl101000 (a : Operand) (dest : Dest) (cond : Cond) (s : State) : Host.Outcome State Fault Refusal :=
  .next (compute cpuAlu a ⟨true, false, true, false, false, false⟩ dest cond s)

/-- R217: zx=1 nx=0 zy=1 ny=0 f=0 no=1, the result is -1. -/
def execCompCtl101001 (a : Operand) (dest : Dest) (cond : Cond) (s : State) : Host.Outcome State Fault Refusal :=
  .next (compute cpuAlu a ⟨true, false, true, false, false, true⟩ dest cond s)

/-- R218: zx=1 nx=0 zy=1 ny=0 f=1 no=0, the result is 0. -/
def execCompCtl101010 (a : Operand) (dest : Dest) (cond : Cond) (s : State) : Host.Outcome State Fault Refusal :=
  .next (compute cpuAlu a ⟨true, false, true, false, true, false⟩ dest cond s)

/-- R219: zx=1 nx=0 zy=1 ny=0 f=1 no=1, the result is -1. -/
def execCompCtl101011 (a : Operand) (dest : Dest) (cond : Cond) (s : State) : Host.Outcome State Fault Refusal :=
  .next (compute cpuAlu a ⟨true, false, true, false, true, true⟩ dest cond s)

/-- R220: zx=1 nx=0 zy=1 ny=1 f=0 no=0, the result is 0. -/
def execCompCtl101100 (a : Operand) (dest : Dest) (cond : Cond) (s : State) : Host.Outcome State Fault Refusal :=
  .next (compute cpuAlu a ⟨true, false, true, true, false, false⟩ dest cond s)

/-- R221: zx=1 nx=0 zy=1 ny=1 f=0 no=1, the result is -1. -/
def execCompCtl101101 (a : Operand) (dest : Dest) (cond : Cond) (s : State) : Host.Outcome State Fault Refusal :=
  .next (compute cpuAlu a ⟨true, false, true, true, false, true⟩ dest cond s)

/-- R222: zx=1 nx=0 zy=1 ny=1 f=1 no=0, the result is -1. -/
def execCompCtl101110 (a : Operand) (dest : Dest) (cond : Cond) (s : State) : Host.Outcome State Fault Refusal :=
  .next (compute cpuAlu a ⟨true, false, true, true, true, false⟩ dest cond s)

/-- R223: zx=1 nx=0 zy=1 ny=1 f=1 no=1, the result is 0. -/
def execCompCtl101111 (a : Operand) (dest : Dest) (cond : Cond) (s : State) : Host.Outcome State Fault Refusal :=
  .next (compute cpuAlu a ⟨true, false, true, true, true, true⟩ dest cond s)

/-- R224: zx=1 nx=1 zy=0 ny=0 f=0 no=0, the result is y. -/
def execCompCtl110000 (a : Operand) (dest : Dest) (cond : Cond) (s : State) : Host.Outcome State Fault Refusal :=
  .next (compute cpuAlu a ⟨true, true, false, false, false, false⟩ dest cond s)

/-- R225: zx=1 nx=1 zy=0 ny=0 f=0 no=1, the result is ~y. -/
def execCompCtl110001 (a : Operand) (dest : Dest) (cond : Cond) (s : State) : Host.Outcome State Fault Refusal :=
  .next (compute cpuAlu a ⟨true, true, false, false, false, true⟩ dest cond s)

/-- R226: zx=1 nx=1 zy=0 ny=0 f=1 no=0, the result is y - 1. -/
def execCompCtl110010 (a : Operand) (dest : Dest) (cond : Cond) (s : State) : Host.Outcome State Fault Refusal :=
  .next (compute cpuAlu a ⟨true, true, false, false, true, false⟩ dest cond s)

/-- R227: zx=1 nx=1 zy=0 ny=0 f=1 no=1, the result is -y. -/
def execCompCtl110011 (a : Operand) (dest : Dest) (cond : Cond) (s : State) : Host.Outcome State Fault Refusal :=
  .next (compute cpuAlu a ⟨true, true, false, false, true, true⟩ dest cond s)

/-- R228: zx=1 nx=1 zy=0 ny=1 f=0 no=0, the result is ~y. -/
def execCompCtl110100 (a : Operand) (dest : Dest) (cond : Cond) (s : State) : Host.Outcome State Fault Refusal :=
  .next (compute cpuAlu a ⟨true, true, false, true, false, false⟩ dest cond s)

/-- R229: zx=1 nx=1 zy=0 ny=1 f=0 no=1, the result is y. -/
def execCompCtl110101 (a : Operand) (dest : Dest) (cond : Cond) (s : State) : Host.Outcome State Fault Refusal :=
  .next (compute cpuAlu a ⟨true, true, false, true, false, true⟩ dest cond s)

/-- R230: zx=1 nx=1 zy=0 ny=1 f=1 no=0, the result is -y - 2. -/
def execCompCtl110110 (a : Operand) (dest : Dest) (cond : Cond) (s : State) : Host.Outcome State Fault Refusal :=
  .next (compute cpuAlu a ⟨true, true, false, true, true, false⟩ dest cond s)

/-- R231: zx=1 nx=1 zy=0 ny=1 f=1 no=1, the result is y + 1. -/
def execCompCtl110111 (a : Operand) (dest : Dest) (cond : Cond) (s : State) : Host.Outcome State Fault Refusal :=
  .next (compute cpuAlu a ⟨true, true, false, true, true, true⟩ dest cond s)

/-- R232: zx=1 nx=1 zy=1 ny=0 f=0 no=0, the result is 0. -/
def execCompCtl111000 (a : Operand) (dest : Dest) (cond : Cond) (s : State) : Host.Outcome State Fault Refusal :=
  .next (compute cpuAlu a ⟨true, true, true, false, false, false⟩ dest cond s)

/-- R233: zx=1 nx=1 zy=1 ny=0 f=0 no=1, the result is -1. -/
def execCompCtl111001 (a : Operand) (dest : Dest) (cond : Cond) (s : State) : Host.Outcome State Fault Refusal :=
  .next (compute cpuAlu a ⟨true, true, true, false, false, true⟩ dest cond s)

/-- R234: zx=1 nx=1 zy=1 ny=0 f=1 no=0, the result is -1. -/
def execCompCtl111010 (a : Operand) (dest : Dest) (cond : Cond) (s : State) : Host.Outcome State Fault Refusal :=
  .next (compute cpuAlu a ⟨true, true, true, false, true, false⟩ dest cond s)

/-- R235: zx=1 nx=1 zy=1 ny=0 f=1 no=1, the result is 0. -/
def execCompCtl111011 (a : Operand) (dest : Dest) (cond : Cond) (s : State) : Host.Outcome State Fault Refusal :=
  .next (compute cpuAlu a ⟨true, true, true, false, true, true⟩ dest cond s)

/-- R236: zx=1 nx=1 zy=1 ny=1 f=0 no=0, the result is -1. -/
def execCompCtl111100 (a : Operand) (dest : Dest) (cond : Cond) (s : State) : Host.Outcome State Fault Refusal :=
  .next (compute cpuAlu a ⟨true, true, true, true, false, false⟩ dest cond s)

/-- R237: zx=1 nx=1 zy=1 ny=1 f=0 no=1, the result is 0. -/
def execCompCtl111101 (a : Operand) (dest : Dest) (cond : Cond) (s : State) : Host.Outcome State Fault Refusal :=
  .next (compute cpuAlu a ⟨true, true, true, true, false, true⟩ dest cond s)

/-- R238: zx=1 nx=1 zy=1 ny=1 f=1 no=0, the result is -2. -/
def execCompCtl111110 (a : Operand) (dest : Dest) (cond : Cond) (s : State) : Host.Outcome State Fault Refusal :=
  .next (compute cpuAlu a ⟨true, true, true, true, true, false⟩ dest cond s)

/-- R239: zx=1 nx=1 zy=1 ny=1 f=1 no=1, the result is 1. -/
def execCompCtl111111 (a : Operand) (dest : Dest) (cond : Cond) (s : State) : Host.Outcome State Fault Refusal :=
  .next (compute cpuAlu a ⟨true, true, true, true, true, true⟩ dest cond s)

end Sys2Proof.Machine
end

