-- ==== Sys2Proof/Machine/Branch.lean ====
section
/-! DEFINITION. The meanings of the eight rows that fix the condition code, COMP.jump.000 to COMP.jump.111 (R153 to
R160): the condition bits are the row's, everything else an operand. -/

namespace Sys2Proof.Machine

/-- R153: condition code 000. -/
def execCompJump000 (a : Operand) (ctl : Ctl) (dest : Dest) (s : State) : Host.Outcome State Fault Refusal :=
  .next (compute cpuAlu a ctl dest ⟨false, false, false⟩ s)

/-- R154: condition code 001. -/
def execCompJump001 (a : Operand) (ctl : Ctl) (dest : Dest) (s : State) : Host.Outcome State Fault Refusal :=
  .next (compute cpuAlu a ctl dest ⟨false, false, true⟩ s)

/-- R155: condition code 010. -/
def execCompJump010 (a : Operand) (ctl : Ctl) (dest : Dest) (s : State) : Host.Outcome State Fault Refusal :=
  .next (compute cpuAlu a ctl dest ⟨false, true, false⟩ s)

/-- R156: condition code 011. -/
def execCompJump011 (a : Operand) (ctl : Ctl) (dest : Dest) (s : State) : Host.Outcome State Fault Refusal :=
  .next (compute cpuAlu a ctl dest ⟨false, true, true⟩ s)

/-- R157: condition code 100. -/
def execCompJump100 (a : Operand) (ctl : Ctl) (dest : Dest) (s : State) : Host.Outcome State Fault Refusal :=
  .next (compute cpuAlu a ctl dest ⟨true, false, false⟩ s)

/-- R158: condition code 101. -/
def execCompJump101 (a : Operand) (ctl : Ctl) (dest : Dest) (s : State) : Host.Outcome State Fault Refusal :=
  .next (compute cpuAlu a ctl dest ⟨true, false, true⟩ s)

/-- R159: condition code 110. -/
def execCompJump110 (a : Operand) (ctl : Ctl) (dest : Dest) (s : State) : Host.Outcome State Fault Refusal :=
  .next (compute cpuAlu a ctl dest ⟨true, true, false⟩ s)

/-- R160: condition code 111. -/
def execCompJump111 (a : Operand) (ctl : Ctl) (dest : Dest) (s : State) : Host.Outcome State Fault Refusal :=
  .next (compute cpuAlu a ctl dest ⟨true, true, true⟩ s)

end Sys2Proof.Machine
end

