-- ==== Sys2Proof/Machine/Dispatch.lean ====
section
/-! DEFINITION. One arm per constructor of `Instr`. The two ignored bits of a compute instruction (R67) are the
pattern's underscore: no meaning is given them. -/

namespace Sys2Proof.Machine

def exec (i : Instr) (s : State) : Host.Outcome State Fault Refusal :=
  match i with
  | .aload v => Sys2Proof.Machine.execAload v s
  | .comp _ a c d j => Sys2Proof.Machine.execComp a c d j s
  | .compA0 _ c d j => Sys2Proof.Machine.execCompA0 c d j s
  | .compA1 _ c d j => Sys2Proof.Machine.execCompA1 c d j s
  | .compCtl000000 _ a d j => Sys2Proof.Machine.execCompCtl000000 a d j s
  | .compCtl000001 _ a d j => Sys2Proof.Machine.execCompCtl000001 a d j s
  | .compCtl000010 _ a d j => Sys2Proof.Machine.execCompCtl000010 a d j s
  | .compCtl000011 _ a d j => Sys2Proof.Machine.execCompCtl000011 a d j s
  | .compCtl000100 _ a d j => Sys2Proof.Machine.execCompCtl000100 a d j s
  | .compCtl000101 _ a d j => Sys2Proof.Machine.execCompCtl000101 a d j s
  | .compCtl000110 _ a d j => Sys2Proof.Machine.execCompCtl000110 a d j s
  | .compCtl000111 _ a d j => Sys2Proof.Machine.execCompCtl000111 a d j s
  | .compCtl001000 _ a d j => Sys2Proof.Machine.execCompCtl001000 a d j s
  | .compCtl001001 _ a d j => Sys2Proof.Machine.execCompCtl001001 a d j s
  | .compCtl001010 _ a d j => Sys2Proof.Machine.execCompCtl001010 a d j s
  | .compCtl001011 _ a d j => Sys2Proof.Machine.execCompCtl001011 a d j s
  | .compCtl001100 _ a d j => Sys2Proof.Machine.execCompCtl001100 a d j s
  | .compCtl001101 _ a d j => Sys2Proof.Machine.execCompCtl001101 a d j s
  | .compCtl001110 _ a d j => Sys2Proof.Machine.execCompCtl001110 a d j s
  | .compCtl001111 _ a d j => Sys2Proof.Machine.execCompCtl001111 a d j s
  | .compCtl010000 _ a d j => Sys2Proof.Machine.execCompCtl010000 a d j s
  | .compCtl010001 _ a d j => Sys2Proof.Machine.execCompCtl010001 a d j s
  | .compCtl010010 _ a d j => Sys2Proof.Machine.execCompCtl010010 a d j s
  | .compCtl010011 _ a d j => Sys2Proof.Machine.execCompCtl010011 a d j s
  | .compCtl010100 _ a d j => Sys2Proof.Machine.execCompCtl010100 a d j s
  | .compCtl010101 _ a d j => Sys2Proof.Machine.execCompCtl010101 a d j s
  | .compCtl010110 _ a d j => Sys2Proof.Machine.execCompCtl010110 a d j s
  | .compCtl010111 _ a d j => Sys2Proof.Machine.execCompCtl010111 a d j s
  | .compCtl011000 _ a d j => Sys2Proof.Machine.execCompCtl011000 a d j s
  | .compCtl011001 _ a d j => Sys2Proof.Machine.execCompCtl011001 a d j s
  | .compCtl011010 _ a d j => Sys2Proof.Machine.execCompCtl011010 a d j s
  | .compCtl011011 _ a d j => Sys2Proof.Machine.execCompCtl011011 a d j s
  | .compCtl011100 _ a d j => Sys2Proof.Machine.execCompCtl011100 a d j s
  | .compCtl011101 _ a d j => Sys2Proof.Machine.execCompCtl011101 a d j s
  | .compCtl011110 _ a d j => Sys2Proof.Machine.execCompCtl011110 a d j s
  | .compCtl011111 _ a d j => Sys2Proof.Machine.execCompCtl011111 a d j s
  | .compCtl100000 _ a d j => Sys2Proof.Machine.execCompCtl100000 a d j s
  | .compCtl100001 _ a d j => Sys2Proof.Machine.execCompCtl100001 a d j s
  | .compCtl100010 _ a d j => Sys2Proof.Machine.execCompCtl100010 a d j s
  | .compCtl100011 _ a d j => Sys2Proof.Machine.execCompCtl100011 a d j s
  | .compCtl100100 _ a d j => Sys2Proof.Machine.execCompCtl100100 a d j s
  | .compCtl100101 _ a d j => Sys2Proof.Machine.execCompCtl100101 a d j s
  | .compCtl100110 _ a d j => Sys2Proof.Machine.execCompCtl100110 a d j s
  | .compCtl100111 _ a d j => Sys2Proof.Machine.execCompCtl100111 a d j s
  | .compCtl101000 _ a d j => Sys2Proof.Machine.execCompCtl101000 a d j s
  | .compCtl101001 _ a d j => Sys2Proof.Machine.execCompCtl101001 a d j s
  | .compCtl101010 _ a d j => Sys2Proof.Machine.execCompCtl101010 a d j s
  | .compCtl101011 _ a d j => Sys2Proof.Machine.execCompCtl101011 a d j s
  | .compCtl101100 _ a d j => Sys2Proof.Machine.execCompCtl101100 a d j s
  | .compCtl101101 _ a d j => Sys2Proof.Machine.execCompCtl101101 a d j s
  | .compCtl101110 _ a d j => Sys2Proof.Machine.execCompCtl101110 a d j s
  | .compCtl101111 _ a d j => Sys2Proof.Machine.execCompCtl101111 a d j s
  | .compCtl110000 _ a d j => Sys2Proof.Machine.execCompCtl110000 a d j s
  | .compCtl110001 _ a d j => Sys2Proof.Machine.execCompCtl110001 a d j s
  | .compCtl110010 _ a d j => Sys2Proof.Machine.execCompCtl110010 a d j s
  | .compCtl110011 _ a d j => Sys2Proof.Machine.execCompCtl110011 a d j s
  | .compCtl110100 _ a d j => Sys2Proof.Machine.execCompCtl110100 a d j s
  | .compCtl110101 _ a d j => Sys2Proof.Machine.execCompCtl110101 a d j s
  | .compCtl110110 _ a d j => Sys2Proof.Machine.execCompCtl110110 a d j s
  | .compCtl110111 _ a d j => Sys2Proof.Machine.execCompCtl110111 a d j s
  | .compCtl111000 _ a d j => Sys2Proof.Machine.execCompCtl111000 a d j s
  | .compCtl111001 _ a d j => Sys2Proof.Machine.execCompCtl111001 a d j s
  | .compCtl111010 _ a d j => Sys2Proof.Machine.execCompCtl111010 a d j s
  | .compCtl111011 _ a d j => Sys2Proof.Machine.execCompCtl111011 a d j s
  | .compCtl111100 _ a d j => Sys2Proof.Machine.execCompCtl111100 a d j s
  | .compCtl111101 _ a d j => Sys2Proof.Machine.execCompCtl111101 a d j s
  | .compCtl111110 _ a d j => Sys2Proof.Machine.execCompCtl111110 a d j s
  | .compCtl111111 _ a d j => Sys2Proof.Machine.execCompCtl111111 a d j s
  | .compDest000 _ a c j => Sys2Proof.Machine.execCompDest000 a c j s
  | .compDest001 _ a c j => Sys2Proof.Machine.execCompDest001 a c j s
  | .compDest010 _ a c j => Sys2Proof.Machine.execCompDest010 a c j s
  | .compDest011 _ a c j => Sys2Proof.Machine.execCompDest011 a c j s
  | .compDest100 _ a c j => Sys2Proof.Machine.execCompDest100 a c j s
  | .compDest101 _ a c j => Sys2Proof.Machine.execCompDest101 a c j s
  | .compDest110 _ a c j => Sys2Proof.Machine.execCompDest110 a c j s
  | .compDest111 _ a c j => Sys2Proof.Machine.execCompDest111 a c j s
  | .compJump000 _ a c d => Sys2Proof.Machine.execCompJump000 a c d s
  | .compJump001 _ a c d => Sys2Proof.Machine.execCompJump001 a c d s
  | .compJump010 _ a c d => Sys2Proof.Machine.execCompJump010 a c d s
  | .compJump011 _ a c d => Sys2Proof.Machine.execCompJump011 a c d s
  | .compJump100 _ a c d => Sys2Proof.Machine.execCompJump100 a c d s
  | .compJump101 _ a c d => Sys2Proof.Machine.execCompJump101 a c d s
  | .compJump110 _ a c d => Sys2Proof.Machine.execCompJump110 a c d s
  | .compJump111 _ a c d => Sys2Proof.Machine.execCompJump111 a c d s

end Sys2Proof.Machine
end

