-- ==== Sys2Proof/Machine/Step.lean ====
section
/-! DEFINITION. One tick: fetch the word at PC (R47), decode it (R60), execute it. Every instruction takes one tick
and completes in it (R286). -/

namespace Sys2Proof.Machine

/-- One tick of the closed machine (R58). -/
def step (s : State) : Host.Outcome State Fault Refusal := exec (decodeWord s.fetchWord) s

/-- `s` with the instruction whose table-numbered bits are `w` placed at PC in the instruction memory, which is where
the next step fetches (log entry 7). -/
def State.withFetchWord (s : State) (nbits w : Nat) : State := s.placeWord (BitVec.ofNat 16 (w % 2 ^ nbits))

end Sys2Proof.Machine
end

