-- ==== Sys2Proof/Machine/Adder.lean ====
section
/-! DEFINITION. The stand-alone adder ADD16C and its 8-bit stage. Neither has state, neither is an instruction, and no
rule of the spec wires them to the CPU (R2, R84). -/

namespace Sys2Proof.Machine

/-- What an 8-bit stage returns: the sum byte `s` and the carry-out `k` (R80). -/
structure Add8Out where
  s : Byte
  k : Bool
  deriving DecidableEq, Repr

/-- What the 16-bit adder returns (R81). -/
structure Add16Out where
  sum : Word
  carry : Bool
  deriving DecidableEq, Repr

/-- `ADD8C` (R80): the low 8 bits and bit 8 of the exact sum. -/
def add8c (a b : Byte) (c : Bool) : Add8Out :=
  let n := a.toNat + b.toNat + c.toNat
  { s := BitVec.ofNat 8 n, k := decide (256 ≤ n) }

/-- `ADD16C` (R81): the low stage takes the carry-in, the high stage the low stage's carry-out. -/
def add16c (a b : Word) (c : Bool) : Add16Out :=
  let low := add8c (a.extractLsb' 0 8) (b.extractLsb' 0 8) c
  let high := add8c (a.extractLsb' 8 8) (b.extractLsb' 8 8) low.k
  { sum := high.s ++ low.s, carry := high.k }

end Sys2Proof.Machine
end

