-- ==== Sys2Proof/Machine/Network.lean ====
section
/-! DEFINITION. The decode and wiring network signal by signal, as R110 writes it from the raw instruction word, and
the closed machine's tick around it (R58). `step` does not use this file: the instruction-level machine and the
network are two descriptions of one hardware, written apart so that their agreement can be stated and proved. -/

namespace Sys2Proof.Machine

/-- Every signal of one tick's combinational phase (R90, R110). -/
structure Signals where
  isCompute : Bool
  y : Word
  aluResult : Word
  zero : Bool
  negative : Bool
  loadAFromAlu : Bool
  loadA : Bool
  loadD : Bool
  /-- Boundary output. -/
  memoryWrite : Bool
  aNext : Word
  dNext : Word
  /-- Boundary output; no consumer may rely on it in a tick with `memoryWrite` false (R55, log entry 8). -/
  memoryDataOut : Word
  /-- Boundary output (R41). -/
  memoryAddress : Addr
  jump : Bool
  pcNext : Addr
  deriving DecidableEq, Repr

/-- The combinational phase as one pure function (R110); bits 14 and 13 of the instruction do not appear. -/
def combinational (alu : Alu) (instruction memoryDataIn : Word) (reset : Bool) (a d : Word) (pc : Addr) : Signals :=
  let isCompute := instruction.getLsbD 15
  let y := if instruction.getLsbD 12 then memoryDataIn else a
  let r := alu d y
    ⟨instruction.getLsbD 11, instruction.getLsbD 10, instruction.getLsbD 9,
      instruction.getLsbD 8, instruction.getLsbD 7, instruction.getLsbD 6⟩
  let loadAFromAlu := isCompute && instruction.getLsbD 5
  let jump := branchEval isCompute
    ⟨instruction.getLsbD 2, instruction.getLsbD 1, instruction.getLsbD 0⟩ r.zero r.negative
  { isCompute := isCompute
    y := y
    aluResult := r.out
    zero := r.zero
    negative := r.negative
    loadAFromAlu := loadAFromAlu
    loadA := !isCompute || loadAFromAlu
    loadD := isCompute && instruction.getLsbD 4
    memoryWrite := isCompute && instruction.getLsbD 3
    aNext := if isCompute then r.out else 0#1 ++ instruction.extractLsb' 0 15
    dNext := r.out
    memoryDataOut := r.out
    memoryAddress := a.extractLsb' 0 15
    jump := jump
    pcNext := if reset then 0 else if jump then a.extractLsb' 0 15 else BitVec.ofNat 15 (pc.toNat + 1) }

/-- The signals of the coming tick in the reference environment (R47, R48, R58). -/
def State.signals (alu : Alu) (s : State) : Signals :=
  combinational alu (Memory.readWord s.im s.pc) (Memory.readWord s.dm (lowAddr s.a)) s.resetLine s.a s.d s.pc

/-- One tick of the closed machine (R58): the combinational phase, then the commits of R102 and R49. -/
def State.tick (alu : Alu) (s : State) : State :=
  let g := s.signals alu
  { a := if g.loadA then g.aNext else s.a
    d := if g.loadD then g.dNext else s.d
    pc := g.pcNext
    dm := if g.memoryWrite then Memory.writeWord s.dm g.memoryAddress g.memoryDataOut else s.dm
    im := s.im
    resetIn := s.resetIn.tail }

/-- The core's step with the outcome R266 gives it: the fault and the refusal type are empty, so a next state is all it
can answer. -/
def coreStep (alu : Alu) (s : State) : Host.Outcome State Fault CoreRefusal := .next (s.tick alu)

/-- An outcome of the core in the host's outcome type (log entry 19). -/
def outcomeForHost : Host.Outcome State Fault CoreRefusal → Host.Outcome State Fault Refusal
  | .next t => .next t
  | .fault f => nomatch f
  | .refused r => nomatch r

end Sys2Proof.Machine
end

