-- ==== Sys2Proof/Safety.lean ====
section
/-! DEFINITION. The terms claims about runs use: the invariant of the state's data, a run of N ticks, and the terminal
self-loop that R290 offers as an end of a run. The machine has no halt and no fault (R250, R290), so nothing else can
be meant by a run that ends. -/

namespace Sys2Proof.Machine

/-- Both memories are in their one canonical form and within the address space (R43). -/
abbrev State.Inv (s : State) : Prop := Memory.wf s.dm = true ∧ Memory.wf s.im = true

/-- `t` is the state after `n` ticks from `s`: R290's definition (a) of the end of a run. -/
def RunsTo (n : Nat) (s t : State) : Prop := Host.Core.run Sys2Proof.core n s = .next t

/-- A step never stops the machine (R103): what safety means here. -/
def NeverStops (s : State) : Prop := ∃ t, step s = .next t

/-- R290's definition (b): the machine comes back, in `n` ticks and with no reset among them, to the registers, PC and
data memory it had, and no tick on the way changes a data word. -/
def TerminalLoop (n : Nat) (s : State) : Prop :=
  0 < n ∧ (∀ k, k < n → s.resetIn.getD k Config.unlistedReset = false) ∧
    (∀ k, k ≤ n → ∃ t, RunsTo k s t ∧ t.dm = s.dm) ∧
    ∃ t, RunsTo n s t ∧ t.a = s.a ∧ t.d = s.d ∧ t.pc = s.pc

end Sys2Proof.Machine
end

