-- ==== Sys2Proof/Certificates/Slice0/Obligations.lean ====
section
/-! DEFINITION. The statements for the provers, each a Prop, none proved here. The namespace Claims holds the terms
they share, written from the spec's rules beside the model's own operations: what a compute instruction leaves, in one
record, with the program counter's rule and the condition codes' rule in plain arithmetic. -/

namespace Sys2Proof.Claims

open Sys2Proof.Machine

/-- The second operand as R125 and R126 give it. -/
def secondOperand (s : State) : Operand → Word
  | .regA => s.a
  | .mem => Memory.readWord s.dm (lowAddr s.a)

/-- PC after a tick (R24): reset, else the old A without its bit 15, else the next address modulo 2^15. -/
def pcAfter (s : State) (jump : Bool) : Addr :=
  if s.resetIn.head? = some true then 0
  else if jump then BitVec.ofNat 15 (s.a.toNat % 32768)
  else BitVec.ofNat 15 ((s.pc.toNat + 1) % 32768)

/-- The jump decision of a compute instruction from the flags (R127). -/
def condMet (j : Cond) (r : AluOut) : Bool :=
  (j.j2 && r.negative) || (j.j1 && r.zero) || (j.j0 && !r.zero && !r.negative)

/-- The jump decision from the result read as a signed number (R153 to R160). -/
def signMet (j : Cond) (r : Word) : Bool :=
  (j.j2 && decide (r.toInt < 0)) || (j.j1 && decide (r.toInt = 0)) || (j.j0 && decide (0 < r.toInt))

/-- The state after a compute instruction with result `r`, destination field `d` and jump decision `jump` (R127). -/
def afterResult (s : State) (r : Word) (d : Dest) (jump : Bool) : State where
  a := if d.dA then r else s.a
  d := if d.dD then r else s.d
  pc := pcAfter s jump
  dm := if d.dM then Memory.writeWord s.dm (lowAddr s.a) r else s.dm
  im := s.im
  resetIn := s.resetIn.tail

/-- The same, the jump decided from the ALU's flags. -/
def afterCompute (s : State) (r : AluOut) (d : Dest) (j : Cond) : State := afterResult s r.out d (condMet j r)

/-- The same, the jump decided from the signed result. -/
def afterSigned (s : State) (r : Word) (d : Dest) (j : Cond) : State := afterResult s r d (signMet j r)

end Sys2Proof.Claims

open Sys2Proof Sys2Proof.Machine

/-- For every well-formed instruction (an address-load, or a compute instruction under any of the 83 compute rows, with
every operand at every value), decoding the word it encodes to gives exactly that instruction. Which of the five
rows a compute word matches names it is the model's choice (log entry 1). (R60, R61, R62, 30_encoding.md sections 1
and 2) -/
def Obligations.EveryInstructionDecodesFromItsWord : Prop :=
  ∀ i : Instr, WellFormed i → decodeWord (encode i) = i

/-- For every 16-bit word, what it decodes to is well formed and encodes back to exactly that word: no word is reserved
or illegal, no bit is dropped, and two different words never decode to one instruction. (R60, R69, 30_encoding.md
section 3) -/
def Obligations.EveryWordIsAnInstruction : Prop :=
  ∀ w : Word, WellFormed (decodeWord w) ∧ encode (decodeWord w) = w

/-- Every word decodes, as an address-load whose literal is the word itself if bit 15 is 0 (the word is below 0x8000)
and as a compute instruction if bit 15 is 1, with no state and no other bit consulted for the format. (R60) -/
def Obligations.TypeBitAloneTellsTheFormats : Prop :=
  ∀ w : Word,
    (w.toNat < 0x8000 → decodeWord w = .aload (BitVec.ofNat 15 w.toNat)) ∧
      (0x8000 ≤ w.toNat → ∃ c, (decodeWord w).fields = .inr c)

/-- The fields of the instruction decoded from a word with bit 15 set are: bit 12 the operand select, bits 11 to 6 the
control code zx nx zy ny f no, bits 5, 4, 3 the destination flags A, D, M, bits 2, 1, 0 the condition bits j2, j1,
j0; as numbers, bits 11..6 are zx*32 + nx*16 + zy*8 + ny*4 + f*2 + no. (R62, R63, R64, R65, R66) -/
def Obligations.ComputeFieldsStandWhereTheTablePutsThem : Prop :=
  ∀ (w : Word) (c : CompFields), (decodeWord w).fields = .inr c →
    (c.a = .mem ↔ w.getLsbD 12 = true) ∧
      (w.extractLsb' 6 6).toNat = c.ctl.zx.toNat * 32 + c.ctl.nx.toNat * 16 + c.ctl.zy.toNat * 8 +
        c.ctl.ny.toNat * 4 + c.ctl.f.toNat * 2 + c.ctl.no.toNat ∧
      (w.extractLsb' 3 3).toNat = c.dest.dA.toNat * 4 + c.dest.dD.toNat * 2 + c.dest.dM.toNat ∧
      (w.extractLsb' 0 3).toNat = c.cond.j2.toNat * 4 + c.cond.j1.toNat * 2 + c.cond.j0.toNat ∧
      w.extractLsb' 13 2 = c.ign

/-- The words 0x0064 (@100), 0xE090 (D=D+A), 0xFC9E (MD=M-1;JLE), 0xEA87 (0;JMP), 0x8310 (D=D with bits 14 and 13 zero),
and, written from R62, one word of control code 000000 for a destination row, a condition row and an operand-select
row, decode to the instructions they stand for. The fields are the spec's; which of its five rows names a compute
word (that 0xE010 is COMP.dest.010, 0xE001 is COMP.jump.001, 0xF000 is COMP.a1, and the others their COMP.ctl row)
is the model's choice (log entry 1). (R61, R62, 30_encoding.md section 1, 95_test_vectors.md part 2) -/
def Obligations.WordsOfTheSpecDecode : Prop :=
  decodeWord 0x0064 = .aload 100 ∧
    decodeWord 0xE090 = .compCtl000010 3 .regA ⟨false, true, false⟩ Cond.never ∧
    decodeWord 0xFC9E = .compCtl110010 3 .mem ⟨false, true, true⟩ ⟨true, true, false⟩ ∧
    decodeWord 0xEA87 = .compCtl101010 3 .regA Dest.nowhere Cond.always ∧
    decodeWord 0x8310 = .compCtl001100 0 .regA ⟨false, true, false⟩ Cond.never ∧
    decodeWord 0xE010 = .compDest010 3 .regA Ctl.zero Cond.never ∧
    decodeWord 0xE001 = .compJump001 3 .regA Ctl.zero Dest.nowhere ∧
    decodeWord 0xF000 = .compA1 3 Ctl.zero Dest.nowhere Cond.never

/-- If two instructions, under whatever rows of the table, have the same word, then they have the same effect in every
state; so which of the five rows a compute word is named by (log entry 1) changes nothing. (R71, 30_encoding.md
section 4) -/
def Obligations.SameWordSameEffect : Prop :=
  ∀ (i j : Instr) (s : State), encode i = encode j → exec i s = exec j s

/-- Two words with bit 15 set that differ at most in bits 14 and 13 answer the same next state from every state; none of
the four values is refused. That the two bits are ignored is the spec's own choice D9 (log entry 14). (R67, R251) -/
def Obligations.IgnoredBitsChangeNothing : Prop :=
  ∀ (w w' : Word) (s : State), w.getLsbD 15 = true → w'.getLsbD 15 = true →
    w.extractLsb' 0 13 = w'.extractLsb' 0 13 →
    ∃ t, exec (decodeWord w) s = .next t ∧ exec (decodeWord w') s = .next t

/-- If the two bytes of the instruction memory at PC decode to the well-formed instruction i, one step from the state is
exec of i at that state, with nothing around it: the PC update and the reset input are part of every instruction's
tick. The instruction memory is the spec's own reference environment (log entry 12), its bytes the model's (log
entry 2). (R47, R58, 20_memory.md section 3) -/
def Obligations.StepRunsTheDecodedInstruction : Prop :=
  ∀ (s : State) (i : Instr), WellFormed i →
    decodeBytes [Memory.byteAt s.im (2 * s.pc.toNat), Memory.byteAt s.im (2 * s.pc.toNat + 1)] = .ok (i, []) →
    step s = exec i s

/-- If the instruction-memory word at PC is the word of an instruction i, under any of the table's rows, a step is exec
of i: the meaning given to every row, with every operand, is the meaning the machine runs. The instruction memory is
the spec's own reference environment (log entry 12), its bytes the model's (log entry 2). (R47, R71, 20_memory.md
section 3) -/
def Obligations.StepRunsTheWordAtPc : Prop :=
  ∀ (s : State) (i : Instr), Memory.readWord s.im s.pc = encode i → step s = exec i s

/-- Placing a word at PC in a canonical instruction memory makes the next step execute what that word decodes to, which
is also what the table-numbered decoder answers for it. The instruction memory is the spec's own reference
environment (log entry 12), its bytes the model's (log entry 2). (R47, 20_memory.md section 3) -/
def Obligations.PlacedWordRunsNext : Prop :=
  ∀ (s : State) (w : Word), Memory.wf s.im = true →
    decodeTableWord 16 w.toNat = some (decodeWord w) ∧
      step (s.withFetchWord 16 w.toNat) = exec (decodeWord w) (s.withFetchWord 16 w.toNat)

/-- From every state, one step (fetch, decode, per-instruction meaning) answers exactly the state that the nine-step
combinational network of R110, evaluated on the raw word, followed by the commits, leaves: the per-instruction rules
are the cases of the one step function. The choices D1 to D4, D6, D7 and D9 that both descriptions follow are the
spec's own (log entries 3, 9, 10, 11, 12, 13, 14). (R110) -/
def Obligations.InstructionsAreTheNetworksCases : Prop :=
  ∀ s : State, step s = .next (s.tick cpuAlu)

/-- For every function in the ALU's place: a tick on the word of an address-load is the address-load's effect, and a
tick on the word of a compute instruction is R127 with that ALU, in every state. A[14:0], the wrap of PC, the
reference environment, the store at the end of the tick and the two ignored bits are the spec's own choices D3, D4,
D6, D7 and D9 (log entries 10, 11, 12, 13, 14). (R110, R120, R127, R170, 41_cpu_step.md section 5) -/
def Obligations.InstructionsForEveryAlu : Prop :=
  ∀ (alu : Alu) (s : State),
    (∀ v, Memory.readWord s.im s.pc = packLiteral v → execAload v s = .next (s.tick alu)) ∧
      ∀ c : CompFields, Memory.readWord s.im s.pc = c.pack →
        s.tick alu = Claims.afterCompute s (alu s.d (Claims.secondOperand s c.a) c.ctl) c.dest c.cond

/-- Every instruction (each of the 84 constructors, with every operand) answers a next state from every state, and so
does every step; no run of any length from any state ends in a fault or a refusal, so that what the host's form has
in the type Refusal is never an outcome (log entry 19). (R103, R250, R266) -/
def Obligations.NoInstructionStops : Prop :=
  (∀ (i : Instr) (s : State), ∃ t, exec i s = .next t) ∧ (∀ s : State, NeverStops s) ∧
    ∀ (n : Nat) (s : State), (∀ f, Host.Core.run Sys2Proof.core n s ≠ .fault f) ∧
      ∀ r, Host.Core.run Sys2Proof.core n s ≠ .refused r

/-- From every state and for every n the machine runs n ticks: it has no halt and no final state. (R265, R290,
70_reset_and_hazards.md section 6) -/
def Obligations.EveryRunGoesOn : Prop :=
  ∀ (n : Nat) (s : State), ∃ t, RunsTo n s t

/-- An address-load answers the state in which A is the 15-bit literal below a zero bit, D and memory are unchanged, and
PC is 0 under reset and else the next address modulo 2^15; during its tick, with any ALU, memory_write is 0 and
memory_address is the old A[14:0]. That A[14:0] is the address and that PC wraps are the spec's own choices D3 and
D4 (log entries 10 and 11). (R120) -/
def Obligations.AddressLoadEffect : Prop :=
  ∀ (v : BitVec 15) (s : State),
    exec (.aload v) s =
        .next { s with a := BitVec.ofNat 16 v.toNat, pc := Claims.pcAfter s false, resetIn := s.resetIn.tail } ∧
      ∀ (alu : Alu) (m : Word) (reset : Bool),
        (combinational alu (encode (.aload v)) m reset s.a s.d s.pc).memoryWrite = false ∧
          (combinational alu (encode (.aload v)) m reset s.a s.d s.pc).memoryAddress = lowAddr s.a

/-- In the state an address-load answers, the data address is the literal, the register operand is the literal, the
memory operand is the data word at the literal, and, without reset, an unconditional jump with any other fields goes
to the literal. A[14:0] as address and target is the spec's own choice D3 (log entry 10). (R121, R279,
42_address_load.md) -/
def Obligations.LoadedAddressIsUsableAtOnce : Prop :=
  ∀ (v : BitVec 15) (s : State), ∃ t, exec (.aload v) s = .next t ∧
    t.memAddr = v ∧ (t.operandY .regA).toNat = v.toNat ∧ t.operandY .mem = Memory.readWord s.dm v ∧
      (t.resetIn.head? ≠ some true →
        ∀ (ign : BitVec 2) (a : Operand) (c : Ctl) (d : Dest), ∃ u, exec (.compJump111 ign a c d) t = .next u ∧ u.pc = v)

/-- A compute instruction with fields a, ctl, dest, cond answers the state in which A, D and the data word at the old
A[14:0] hold the ALU result if their flag is set and are unchanged otherwise, and PC is 0 under reset, else the old
A[14:0] if the condition code matches this result's flags, else the next address; for all 2 * 64 * 8 * 8
combinations. The ALU instance is log entry 3; A[14:0], the wrap of PC and the store at the end of the tick are the
spec's own choices D3, D4 and D7 (log entries 10, 11, 13). (R127) -/
def Obligations.ComputeEffect : Prop :=
  ∀ (ign : BitVec 2) (a : Operand) (c : Ctl) (d : Dest) (j : Cond) (s : State),
    exec (.comp ign a c d j) s =
      .next (Claims.afterCompute s (cpuAlu s.d (Claims.secondOperand s a) c) d j)

/-- The row a = 0 answers the compute effect with y = A, independently of the data memory's word; the row a = 1 answers
it with y = the data word at the old A[14:0], read before any write of the same instruction. D is the first operand
of both. The ALU instance is log entry 3; A[14:0] and the old word of a read with a write are the spec's own choices
D3 and D7 (log entries 10 and 13). (R125, R126) -/
def Obligations.OperandSelectEffect : Prop :=
  ∀ (ign : BitVec 2) (c : Ctl) (d : Dest) (j : Cond) (s : State),
    exec (.compA0 ign c d j) s = .next (Claims.afterCompute s (cpuAlu s.d s.a c) d j) ∧
      exec (.compA1 ign c d j) s =
        .next (Claims.afterCompute s (cpuAlu s.d (Memory.readWord s.dm (BitVec.ofNat 15 s.a.toNat)) c) d j)

/-- For every compute instruction (any of the 83 compute rows) in every state, with r the ALU's result: A becomes r if
dA is set and is unchanged otherwise; D becomes r if dD is set and is unchanged otherwise; the data memory has r
written at the old A[14:0] if dM is set and is unchanged otherwise; with any ALU, load_A, load_D and memory_write of
its tick are those flags, memory_address is the old A[14:0], and memory_data_out is the ALU result if dM is set. An
address-load leaves D and the data memory unchanged, load_D and memory_write being 0. The ALU instance of the
state's part is log entry 3; A[14:0] and the store at the end of the tick are the spec's own choices D3 and D7 (log
entries 10 and 13). (R128, R129, R130) -/
def Obligations.DestinationFlags : Prop :=
  (∀ (i : Instr) (c : CompFields) (s : State), i.fields = .inr c →
    (∃ t, exec i s = .next t ∧
      t.a = (if c.dest.dA then (cpuAlu s.d (Claims.secondOperand s c.a) c.ctl).out else s.a) ∧
      t.d = (if c.dest.dD then (cpuAlu s.d (Claims.secondOperand s c.a) c.ctl).out else s.d) ∧
      t.dm = if c.dest.dM then
          Memory.writeWord s.dm (lowAddr s.a) (cpuAlu s.d (Claims.secondOperand s c.a) c.ctl).out
        else s.dm) ∧
    ∀ (alu : Alu) (m : Word) (reset : Bool),
      let g := combinational alu (encode i) m reset s.a s.d s.pc
      g.loadAFromAlu = c.dest.dA ∧ g.loadA = c.dest.dA ∧ g.loadD = c.dest.dD ∧ g.memoryWrite = c.dest.dM ∧
        g.memoryAddress = lowAddr s.a ∧ (c.dest.dM = true → g.memoryDataOut = g.aluResult)) ∧
  ∀ (v : BitVec 15) (s : State), (∃ t, exec (.aload v) s = .next t ∧ t.d = s.d ∧ t.dm = s.dm) ∧
    ∀ (alu : Alu) (m : Word) (reset : Bool),
      (combinational alu (encode (.aload v)) m reset s.a s.d s.pc).loadD = false ∧
        (combinational alu (encode (.aload v)) m reset s.a s.d s.pc).memoryWrite = false

/-- For each destination field 000 to 111 and every other field: the answered state differs from the old one exactly in
the selected destinations, which hold the ALU result (memory at the old A[14:0]), in PC, and in the reset input
having moved on. The ALU instance is log entry 3; A[14:0], the wrap of PC and the store at the end of the tick are
the spec's own choices (log entries 10, 11, 13). (R131, R132, R133, R134, R135, R136, R137, R138) -/
def Obligations.DestinationRows : Prop :=
  ∀ (ign : BitVec 2) (a : Operand) (c : Ctl) (j : Cond) (s : State),
    let r := cpuAlu s.d (Claims.secondOperand s a) c
    let p := Claims.pcAfter s (Claims.condMet j r)
    exec (.compDest000 ign a c j) s = .next { s with pc := p, resetIn := s.resetIn.tail } ∧
    exec (.compDest001 ign a c j) s = .next { s with pc := p, dm := Memory.writeWord s.dm (lowAddr s.a) r.out, resetIn := s.resetIn.tail } ∧
    exec (.compDest010 ign a c j) s = .next { s with d := r.out, pc := p, resetIn := s.resetIn.tail } ∧
    exec (.compDest011 ign a c j) s = .next { s with d := r.out, pc := p, dm := Memory.writeWord s.dm (lowAddr s.a) r.out, resetIn := s.resetIn.tail } ∧
    exec (.compDest100 ign a c j) s = .next { s with a := r.out, pc := p, resetIn := s.resetIn.tail } ∧
    exec (.compDest101 ign a c j) s = .next { s with a := r.out, pc := p, dm := Memory.writeWord s.dm (lowAddr s.a) r.out, resetIn := s.resetIn.tail } ∧
    exec (.compDest110 ign a c j) s = .next { s with a := r.out, d := r.out, pc := p, resetIn := s.resetIn.tail } ∧
    exec (.compDest111 ign a c j) s = .next { s with a := r.out, d := r.out, pc := p, dm := Memory.writeWord s.dm (lowAddr s.a) r.out, resetIn := s.resetIn.tail }

/-- For each condition code 000 to 111 and every other field, with r the ALU result read as a signed number: the jump is
taken never, if r > 0, r = 0, r >= 0, r < 0, r != 0, r <= 0, always; PC is 0 under reset, else the old A[14:0] if
the jump is taken, else the next address modulo 2^15; the destinations take r as always, memory at the old A[14:0].
Reading the flags as the sign of the result is the spec's own choice D2 (log entry 9); A[14:0], the wrap of PC and
the store at the end of the tick are D3, D4 and D7 (log entries 10, 11, 13); the ALU instance is log entry 3. (R153,
R154, R155, R156, R157, R158, R159, R160) -/
def Obligations.ConditionRows : Prop :=
  ∀ (ign : BitVec 2) (a : Operand) (c : Ctl) (d : Dest) (s : State),
    let r := (cpuAlu s.d (Claims.secondOperand s a) c).out
    exec (.compJump000 ign a c d) s = .next (Claims.afterResult s r d (false)) ∧
    exec (.compJump001 ign a c d) s = .next (Claims.afterResult s r d (decide (0 < r.toInt))) ∧
    exec (.compJump010 ign a c d) s = .next (Claims.afterResult s r d (decide (r = 0))) ∧
    exec (.compJump011 ign a c d) s = .next (Claims.afterResult s r d (decide (0 ≤ r.toInt))) ∧
    exec (.compJump100 ign a c d) s = .next (Claims.afterResult s r d (decide (r.toInt < 0))) ∧
    exec (.compJump101 ign a c d) s = .next (Claims.afterResult s r d (decide (r ≠ 0))) ∧
    exec (.compJump110 ign a c d) s = .next (Claims.afterResult s r d (decide (r.toInt ≤ 0))) ∧
    exec (.compJump111 ign a c d) s = .next (Claims.afterResult s r d (true))

/-- With x = D and y the selected second operand, the eight rows COMP.ctl.000000 to COMP.ctl.000111 compute x & y, ~(x &
y), x + y, -x - y - 1, x & ~y, ~x | y, x - y - 1, y - x modulo 2^16, give the result to the selected destinations,
and jump by its signed value. That the CPU is wired to REF_ALU is the model's choice (log entry 3, the spec's
default instance). The sign reading of the jump is the spec's own choice D2 (log entry 9), A[14:0] and the wrap of
PC are D3 and D4 (log entries 10 and 11). (R176, R177, R178, R179, R180, R181, R182, R183, 45_alu.md section 3) -/
def Obligations.ControlCodes000xxx : Prop :=
  ∀ (ign : BitVec 2) (a : Operand) (d : Dest) (j : Cond) (s : State),
    let x := s.d
    let y := Claims.secondOperand s a
    exec (.compCtl000000 ign a d j) s = .next (Claims.afterSigned s (x &&& y) d j) ∧
    exec (.compCtl000001 ign a d j) s = .next (Claims.afterSigned s (~~~(x &&& y)) d j) ∧
    exec (.compCtl000010 ign a d j) s = .next (Claims.afterSigned s (x + y) d j) ∧
    exec (.compCtl000011 ign a d j) s = .next (Claims.afterSigned s (-x - y - 1) d j) ∧
    exec (.compCtl000100 ign a d j) s = .next (Claims.afterSigned s (x &&& ~~~y) d j) ∧
    exec (.compCtl000101 ign a d j) s = .next (Claims.afterSigned s (~~~x ||| y) d j) ∧
    exec (.compCtl000110 ign a d j) s = .next (Claims.afterSigned s (x - y - 1) d j) ∧
    exec (.compCtl000111 ign a d j) s = .next (Claims.afterSigned s (y - x) d j)

/-- With x = D and y the selected second operand, the eight rows COMP.ctl.001000 to COMP.ctl.001111 compute 0, -1, x,
~x, x, ~x, x - 1, -x modulo 2^16, give the result to the selected destinations, and jump by its signed value. That
the CPU is wired to REF_ALU is the model's choice (log entry 3, the spec's default instance). The sign reading of
the jump is the spec's own choice D2 (log entry 9), A[14:0] and the wrap of PC are D3 and D4 (log entries 10 and
11). (R184, R185, R186, R187, R188, R189, R190, R191, 45_alu.md section 3) -/
def Obligations.ControlCodes001xxx : Prop :=
  ∀ (ign : BitVec 2) (a : Operand) (d : Dest) (j : Cond) (s : State),
    let x := s.d
    exec (.compCtl001000 ign a d j) s = .next (Claims.afterSigned s 0 d j) ∧
    exec (.compCtl001001 ign a d j) s = .next (Claims.afterSigned s (-1) d j) ∧
    exec (.compCtl001010 ign a d j) s = .next (Claims.afterSigned s x d j) ∧
    exec (.compCtl001011 ign a d j) s = .next (Claims.afterSigned s (~~~x) d j) ∧
    exec (.compCtl001100 ign a d j) s = .next (Claims.afterSigned s x d j) ∧
    exec (.compCtl001101 ign a d j) s = .next (Claims.afterSigned s (~~~x) d j) ∧
    exec (.compCtl001110 ign a d j) s = .next (Claims.afterSigned s (x - 1) d j) ∧
    exec (.compCtl001111 ign a d j) s = .next (Claims.afterSigned s (-x) d j)

/-- With x = D and y the selected second operand, the eight rows COMP.ctl.010000 to COMP.ctl.010111 compute ~x & y, x |
~y, y - x - 1, x - y, ~(x | y), x | y, -x - y - 2, x + y + 1 modulo 2^16, give the result to the selected
destinations, and jump by its signed value. That the CPU is wired to REF_ALU is the model's choice (log entry 3, the
spec's default instance). The sign reading of the jump is the spec's own choice D2 (log entry 9), A[14:0] and the
wrap of PC are D3 and D4 (log entries 10 and 11). (R192, R193, R194, R195, R196, R197, R198, R199, 45_alu.md section
3) -/
def Obligations.ControlCodes010xxx : Prop :=
  ∀ (ign : BitVec 2) (a : Operand) (d : Dest) (j : Cond) (s : State),
    let x := s.d
    let y := Claims.secondOperand s a
    exec (.compCtl010000 ign a d j) s = .next (Claims.afterSigned s (~~~x &&& y) d j) ∧
    exec (.compCtl010001 ign a d j) s = .next (Claims.afterSigned s (x ||| ~~~y) d j) ∧
    exec (.compCtl010010 ign a d j) s = .next (Claims.afterSigned s (y - x - 1) d j) ∧
    exec (.compCtl010011 ign a d j) s = .next (Claims.afterSigned s (x - y) d j) ∧
    exec (.compCtl010100 ign a d j) s = .next (Claims.afterSigned s (~~~(x ||| y)) d j) ∧
    exec (.compCtl010101 ign a d j) s = .next (Claims.afterSigned s (x ||| y) d j) ∧
    exec (.compCtl010110 ign a d j) s = .next (Claims.afterSigned s (-x - y - 2) d j) ∧
    exec (.compCtl010111 ign a d j) s = .next (Claims.afterSigned s (x + y + 1) d j)

/-- With x = D and y the selected second operand, the eight rows COMP.ctl.011000 to COMP.ctl.011111 compute 0, -1, ~x,
x, ~x, x, -x - 2, x + 1 modulo 2^16, give the result to the selected destinations, and jump by its signed value.
That the CPU is wired to REF_ALU is the model's choice (log entry 3, the spec's default instance). The sign reading
of the jump is the spec's own choice D2 (log entry 9), A[14:0] and the wrap of PC are D3 and D4 (log entries 10 and
11). (R200, R201, R202, R203, R204, R205, R206, R207, 45_alu.md section 3) -/
def Obligations.ControlCodes011xxx : Prop :=
  ∀ (ign : BitVec 2) (a : Operand) (d : Dest) (j : Cond) (s : State),
    let x := s.d
    exec (.compCtl011000 ign a d j) s = .next (Claims.afterSigned s 0 d j) ∧
    exec (.compCtl011001 ign a d j) s = .next (Claims.afterSigned s (-1) d j) ∧
    exec (.compCtl011010 ign a d j) s = .next (Claims.afterSigned s (~~~x) d j) ∧
    exec (.compCtl011011 ign a d j) s = .next (Claims.afterSigned s x d j) ∧
    exec (.compCtl011100 ign a d j) s = .next (Claims.afterSigned s (~~~x) d j) ∧
    exec (.compCtl011101 ign a d j) s = .next (Claims.afterSigned s x d j) ∧
    exec (.compCtl011110 ign a d j) s = .next (Claims.afterSigned s (-x - 2) d j) ∧
    exec (.compCtl011111 ign a d j) s = .next (Claims.afterSigned s (x + 1) d j)

/-- With x = D and y the selected second operand, the eight rows COMP.ctl.100000 to COMP.ctl.100111 compute 0, -1, y,
~y, 0, -1, ~y, y modulo 2^16, give the result to the selected destinations, and jump by its signed value. That the
CPU is wired to REF_ALU is the model's choice (log entry 3, the spec's default instance). The sign reading of the
jump is the spec's own choice D2 (log entry 9), A[14:0] and the wrap of PC are D3 and D4 (log entries 10 and 11).
(R208, R209, R210, R211, R212, R213, R214, R215, 45_alu.md section 3) -/
def Obligations.ControlCodes100xxx : Prop :=
  ∀ (ign : BitVec 2) (a : Operand) (d : Dest) (j : Cond) (s : State),
    let y := Claims.secondOperand s a
    exec (.compCtl100000 ign a d j) s = .next (Claims.afterSigned s 0 d j) ∧
    exec (.compCtl100001 ign a d j) s = .next (Claims.afterSigned s (-1) d j) ∧
    exec (.compCtl100010 ign a d j) s = .next (Claims.afterSigned s y d j) ∧
    exec (.compCtl100011 ign a d j) s = .next (Claims.afterSigned s (~~~y) d j) ∧
    exec (.compCtl100100 ign a d j) s = .next (Claims.afterSigned s 0 d j) ∧
    exec (.compCtl100101 ign a d j) s = .next (Claims.afterSigned s (-1) d j) ∧
    exec (.compCtl100110 ign a d j) s = .next (Claims.afterSigned s (~~~y) d j) ∧
    exec (.compCtl100111 ign a d j) s = .next (Claims.afterSigned s y d j)

/-- With x = D and y the selected second operand, the eight rows COMP.ctl.101000 to COMP.ctl.101111 compute 0, -1, 0,
-1, 0, -1, -1, 0 modulo 2^16, give the result to the selected destinations, and jump by its signed value. That the
CPU is wired to REF_ALU is the model's choice (log entry 3, the spec's default instance). The sign reading of the
jump is the spec's own choice D2 (log entry 9), A[14:0] and the wrap of PC are D3 and D4 (log entries 10 and 11).
(R216, R217, R218, R219, R220, R221, R222, R223, 45_alu.md section 3) -/
def Obligations.ControlCodes101xxx : Prop :=
  ∀ (ign : BitVec 2) (a : Operand) (d : Dest) (j : Cond) (s : State),
    exec (.compCtl101000 ign a d j) s = .next (Claims.afterSigned s 0 d j) ∧
    exec (.compCtl101001 ign a d j) s = .next (Claims.afterSigned s (-1) d j) ∧
    exec (.compCtl101010 ign a d j) s = .next (Claims.afterSigned s 0 d j) ∧
    exec (.compCtl101011 ign a d j) s = .next (Claims.afterSigned s (-1) d j) ∧
    exec (.compCtl101100 ign a d j) s = .next (Claims.afterSigned s 0 d j) ∧
    exec (.compCtl101101 ign a d j) s = .next (Claims.afterSigned s (-1) d j) ∧
    exec (.compCtl101110 ign a d j) s = .next (Claims.afterSigned s (-1) d j) ∧
    exec (.compCtl101111 ign a d j) s = .next (Claims.afterSigned s 0 d j)

/-- With x = D and y the selected second operand, the eight rows COMP.ctl.110000 to COMP.ctl.110111 compute y, ~y, y -
1, -y, ~y, y, -y - 2, y + 1 modulo 2^16, give the result to the selected destinations, and jump by its signed value.
That the CPU is wired to REF_ALU is the model's choice (log entry 3, the spec's default instance). The sign reading
of the jump is the spec's own choice D2 (log entry 9), A[14:0] and the wrap of PC are D3 and D4 (log entries 10 and
11). (R224, R225, R226, R227, R228, R229, R230, R231, 45_alu.md section 3) -/
def Obligations.ControlCodes110xxx : Prop :=
  ∀ (ign : BitVec 2) (a : Operand) (d : Dest) (j : Cond) (s : State),
    let y := Claims.secondOperand s a
    exec (.compCtl110000 ign a d j) s = .next (Claims.afterSigned s y d j) ∧
    exec (.compCtl110001 ign a d j) s = .next (Claims.afterSigned s (~~~y) d j) ∧
    exec (.compCtl110010 ign a d j) s = .next (Claims.afterSigned s (y - 1) d j) ∧
    exec (.compCtl110011 ign a d j) s = .next (Claims.afterSigned s (-y) d j) ∧
    exec (.compCtl110100 ign a d j) s = .next (Claims.afterSigned s (~~~y) d j) ∧
    exec (.compCtl110101 ign a d j) s = .next (Claims.afterSigned s y d j) ∧
    exec (.compCtl110110 ign a d j) s = .next (Claims.afterSigned s (-y - 2) d j) ∧
    exec (.compCtl110111 ign a d j) s = .next (Claims.afterSigned s (y + 1) d j)

/-- With x = D and y the selected second operand, the eight rows COMP.ctl.111000 to COMP.ctl.111111 compute 0, -1, -1,
0, -1, 0, -2, 1 modulo 2^16, give the result to the selected destinations, and jump by its signed value. That the
CPU is wired to REF_ALU is the model's choice (log entry 3, the spec's default instance). The sign reading of the
jump is the spec's own choice D2 (log entry 9), A[14:0] and the wrap of PC are D3 and D4 (log entries 10 and 11).
(R232, R233, R234, R235, R236, R237, R238, R239, 45_alu.md section 3) -/
def Obligations.ControlCodes111xxx : Prop :=
  ∀ (ign : BitVec 2) (a : Operand) (d : Dest) (j : Cond) (s : State),
    exec (.compCtl111000 ign a d j) s = .next (Claims.afterSigned s 0 d j) ∧
    exec (.compCtl111001 ign a d j) s = .next (Claims.afterSigned s (-1) d j) ∧
    exec (.compCtl111010 ign a d j) s = .next (Claims.afterSigned s (-1) d j) ∧
    exec (.compCtl111011 ign a d j) s = .next (Claims.afterSigned s 0 d j) ∧
    exec (.compCtl111100 ign a d j) s = .next (Claims.afterSigned s (-1) d j) ∧
    exec (.compCtl111101 ign a d j) s = .next (Claims.afterSigned s 0 d j) ∧
    exec (.compCtl111110 ign a d j) s = .next (Claims.afterSigned s (-2) d j) ∧
    exec (.compCtl111111 ign a d j) s = .next (Claims.afterSigned s 1 d j)

/-- For all 16-bit x and y, the result of REF_ALU under each of the 64 control codes is the function R175's table gives
it, modulo 2^16; and the corner cases R175 names hold. REF_ALU is the spec's own default from general knowledge (log
entry 3). (R175) -/
def Obligations.ReferenceAluTable : Prop :=
  (∀ x y : Word,
    (refAlu x y ⟨false, false, false, false, false, false⟩).out = x &&& y ∧
    (refAlu x y ⟨false, false, false, false, false, true⟩).out = ~~~(x &&& y) ∧
    (refAlu x y ⟨false, false, false, false, true, false⟩).out = x + y ∧
    (refAlu x y ⟨false, false, false, false, true, true⟩).out = -x - y - 1 ∧
    (refAlu x y ⟨false, false, false, true, false, false⟩).out = x &&& ~~~y ∧
    (refAlu x y ⟨false, false, false, true, false, true⟩).out = ~~~x ||| y ∧
    (refAlu x y ⟨false, false, false, true, true, false⟩).out = x - y - 1 ∧
    (refAlu x y ⟨false, false, false, true, true, true⟩).out = y - x ∧
    (refAlu x y ⟨false, false, true, false, false, false⟩).out = 0 ∧
    (refAlu x y ⟨false, false, true, false, false, true⟩).out = -1 ∧
    (refAlu x y ⟨false, false, true, false, true, false⟩).out = x ∧
    (refAlu x y ⟨false, false, true, false, true, true⟩).out = ~~~x ∧
    (refAlu x y ⟨false, false, true, true, false, false⟩).out = x ∧
    (refAlu x y ⟨false, false, true, true, false, true⟩).out = ~~~x ∧
    (refAlu x y ⟨false, false, true, true, true, false⟩).out = x - 1 ∧
    (refAlu x y ⟨false, false, true, true, true, true⟩).out = -x ∧
    (refAlu x y ⟨false, true, false, false, false, false⟩).out = ~~~x &&& y ∧
    (refAlu x y ⟨false, true, false, false, false, true⟩).out = x ||| ~~~y ∧
    (refAlu x y ⟨false, true, false, false, true, false⟩).out = y - x - 1 ∧
    (refAlu x y ⟨false, true, false, false, true, true⟩).out = x - y ∧
    (refAlu x y ⟨false, true, false, true, false, false⟩).out = ~~~(x ||| y) ∧
    (refAlu x y ⟨false, true, false, true, false, true⟩).out = x ||| y ∧
    (refAlu x y ⟨false, true, false, true, true, false⟩).out = -x - y - 2 ∧
    (refAlu x y ⟨false, true, false, true, true, true⟩).out = x + y + 1 ∧
    (refAlu x y ⟨false, true, true, false, false, false⟩).out = 0 ∧
    (refAlu x y ⟨false, true, true, false, false, true⟩).out = -1 ∧
    (refAlu x y ⟨false, true, true, false, true, false⟩).out = ~~~x ∧
    (refAlu x y ⟨false, true, true, false, true, true⟩).out = x ∧
    (refAlu x y ⟨false, true, true, true, false, false⟩).out = ~~~x ∧
    (refAlu x y ⟨false, true, true, true, false, true⟩).out = x ∧
    (refAlu x y ⟨false, true, true, true, true, false⟩).out = -x - 2 ∧
    (refAlu x y ⟨false, true, true, true, true, true⟩).out = x + 1 ∧
    (refAlu x y ⟨true, false, false, false, false, false⟩).out = 0 ∧
    (refAlu x y ⟨true, false, false, false, false, true⟩).out = -1 ∧
    (refAlu x y ⟨true, false, false, false, true, false⟩).out = y ∧
    (refAlu x y ⟨true, false, false, false, true, true⟩).out = ~~~y ∧
    (refAlu x y ⟨true, false, false, true, false, false⟩).out = 0 ∧
    (refAlu x y ⟨true, false, false, true, false, true⟩).out = -1 ∧
    (refAlu x y ⟨true, false, false, true, true, false⟩).out = ~~~y ∧
    (refAlu x y ⟨true, false, false, true, true, true⟩).out = y ∧
    (refAlu x y ⟨true, false, true, false, false, false⟩).out = 0 ∧
    (refAlu x y ⟨true, false, true, false, false, true⟩).out = -1 ∧
    (refAlu x y ⟨true, false, true, false, true, false⟩).out = 0 ∧
    (refAlu x y ⟨true, false, true, false, true, true⟩).out = -1 ∧
    (refAlu x y ⟨true, false, true, true, false, false⟩).out = 0 ∧
    (refAlu x y ⟨true, false, true, true, false, true⟩).out = -1 ∧
    (refAlu x y ⟨true, false, true, true, true, false⟩).out = -1 ∧
    (refAlu x y ⟨true, false, true, true, true, true⟩).out = 0 ∧
    (refAlu x y ⟨true, true, false, false, false, false⟩).out = y ∧
    (refAlu x y ⟨true, true, false, false, false, true⟩).out = ~~~y ∧
    (refAlu x y ⟨true, true, false, false, true, false⟩).out = y - 1 ∧
    (refAlu x y ⟨true, true, false, false, true, true⟩).out = -y ∧
    (refAlu x y ⟨true, true, false, true, false, false⟩).out = ~~~y ∧
    (refAlu x y ⟨true, true, false, true, false, true⟩).out = y ∧
    (refAlu x y ⟨true, true, false, true, true, false⟩).out = -y - 2 ∧
    (refAlu x y ⟨true, true, false, true, true, true⟩).out = y + 1 ∧
    (refAlu x y ⟨true, true, true, false, false, false⟩).out = 0 ∧
    (refAlu x y ⟨true, true, true, false, false, true⟩).out = -1 ∧
    (refAlu x y ⟨true, true, true, false, true, false⟩).out = -1 ∧
    (refAlu x y ⟨true, true, true, false, true, true⟩).out = 0 ∧
    (refAlu x y ⟨true, true, true, true, false, false⟩).out = -1 ∧
    (refAlu x y ⟨true, true, true, true, false, true⟩).out = 0 ∧
    (refAlu x y ⟨true, true, true, true, true, false⟩).out = -2 ∧
    (refAlu x y ⟨true, true, true, true, true, true⟩).out = 1) ∧
    (∀ y : Word, (refAlu 0x8000 y ⟨false, false, true, true, true, true⟩).out = 0x8000 ∧
      (refAlu 0xFFFF y ⟨false, true, true, true, true, true⟩) = ⟨0, true, false⟩ ∧
      (refAlu 0 y ⟨false, false, true, true, true, false⟩) = ⟨0xFFFF, false, true⟩) ∧
    (refAlu 0x8000 1 ⟨false, true, false, false, true, true⟩).out = 0x7FFF

/-- The ALU the CPU is wired to obeys the flag law; and for every ALU that does: zero says the result is 0, negative
says it is below 0 as a signed number, never both, and neither says it is above 0. The flag law is the spec's own
choice D2 (log entry 9). (R171, 45_alu.md section 1) -/
def Obligations.FlagsOfEveryLawfulAlu : Prop :=
  Alu.FlagLaw cpuAlu ∧
    ∀ alu : Alu, alu.FlagLaw → ∀ (x y : Word) (c : Ctl),
      ((alu x y c).zero = true ↔ (alu x y c).out.toInt = 0) ∧
        ((alu x y c).negative = true ↔ (alu x y c).out.toInt < 0) ∧
        ¬((alu x y c).zero = true ∧ (alu x y c).negative = true) ∧
        ((alu x y c).zero = false ∧ (alu x y c).negative = false ↔ 0 < (alu x y c).out.toInt)

/-- For an address-load the decision is 0; for a compute instruction it is the disjunction of j2 and negative, j1 and
zero, j0 and neither; code 000 never jumps, code 111 always does, also if an ALU asserted both flags. (R150) -/
def Obligations.BranchEvaluatorTable : Prop :=
  (∀ (j : Cond) (z n : Bool), branchEval false j z n = false) ∧
    (∀ (j : Cond) (z n : Bool), branchEval true j z n = true ↔
      (j.j2 = true ∧ n = true) ∨ (j.j1 = true ∧ z = true) ∨ (j.j0 = true ∧ z = false ∧ n = false)) ∧
    ∀ z n : Bool, branchEval true Cond.never z n = false ∧ branchEval true Cond.always z n = true

/-- For all operands and all input conditionings, the result of REF_ALU with f = 1 and no = 0 is the sum that the
two-stage adder gives for the conditioned operands with carry-in 0. (R174, 45_alu.md section 2) -/
def Obligations.ReferenceAluAddsLikeTheAdder : Prop :=
  ∀ (x y : Word) (zx nx zy ny : Bool),
    (refAlu x y ⟨zx, nx, zy, ny, true, false⟩).out =
      (add16c (conditionInput x zx nx) (conditionInput y zy ny) false).sum

/-- For every pair of bytes and carry-in, the stage's sum byte plus 256 times its carry-out is the exact integer sum.
(R80) -/
def Obligations.AdderStageContract : Prop :=
  ∀ (a b : Byte) (c : Bool), (add8c a b c).s.toNat + 256 * (add8c a b c).k.toNat = a.toNat + b.toNat + c.toNat

/-- For all 16-bit a, b and carry-in c, the sum output of the two chained 8-bit stages is (a + b + c) mod 2^16 and the
carry output is 1 exactly when a + b + c is at least 2^16. (R82) -/
def Obligations.CarryAdderLaw : Prop :=
  ∀ (a b : Word) (c : Bool),
    (add16c a b c).sum.toNat = (a.toNat + b.toNat + c.toNat) % 65536 ∧
      ((add16c a b c).carry = true ↔ 65536 ≤ a.toNat + b.toNat + c.toNat) ∧
      (add16c a b c).sum.toNat + 65536 * (add16c a b c).carry.toNat = a.toNat + b.toNat + c.toNat

/-- Read as signed numbers, the sum is congruent to the sum of the signed operands and the carry-in modulo 2^16; 0x7FFF
+ 1 gives 0x8000 with carry 0, and 0x8000 + 0x8000 gives 0 with carry 1. (R83) -/
def Obligations.CarryAdderSignedReading : Prop :=
  (∀ (a b : Word) (c : Bool),
      (add16c a b c).sum.toInt % 65536 = (a.toInt + b.toInt + (c.toNat : Int)) % 65536) ∧
    add16c 0x7FFF 1 false = ⟨0x8000, false⟩ ∧ add16c 0x8000 0x8000 false = ⟨0, true⟩

/-- With carry-in 1, adding 0 increments and adding the complement subtracts, its carry being 1 exactly when there is no
borrow; and the carry of one adder into a second adds 32-bit numbers exactly. (R86) -/
def Obligations.CarryAdderUses : Prop :=
  (∀ a b : Word, (add16c a 0 true).sum = a + 1 ∧ (add16c a (~~~b) true).sum = a - b ∧
      ((add16c a (~~~b) true).carry = true ↔ b.toNat ≤ a.toNat)) ∧
    ∀ (al ah bl bh : Word) (c : Bool),
      (add16c al bl c).sum.toNat + 65536 * (add16c ah bh (add16c al bl c).carry).sum.toNat +
          4294967296 * (add16c ah bh (add16c al bl c).carry).carry.toNat =
        (al.toNat + 65536 * ah.toNat) + (bl.toNat + 65536 * bh.toNat) + c.toNat

/-- load_A is 1 for every address-load and for a compute instruction with bit 5; load_D and memory_write need bit 15
with bit 4 and bit 3; A_next is the literal below a zero bit for an address-load and the ALU result otherwise;
memory_address is A[14:0] whatever the instruction; in a tick that writes, memory_data_out is the ALU result.
A[14:0] as address and target is the spec's own choice D3 (log entry 10). (R94, R96, R98, R106) -/
def Obligations.NetworkControlSignals : Prop :=
  ∀ (alu : Alu) (w m : Word) (reset : Bool) (a d : Word) (pc : Addr),
    let g := combinational alu w m reset a d pc
    g.loadA = (!w.getLsbD 15 || w.getLsbD 5) ∧ g.loadD = (w.getLsbD 15 && w.getLsbD 4) ∧
      g.memoryWrite = (w.getLsbD 15 && w.getLsbD 3) ∧
      (w.getLsbD 15 = false → g.aNext = w ∧ g.jump = false) ∧ (w.getLsbD 15 = true → g.aNext = g.aluResult) ∧
      g.memoryAddress.toNat = a.toNat % 32768 ∧ (g.memoryWrite = true → g.memoryDataOut = g.aluResult)

/-- Whenever an address-load answers a next state, D, every byte of the data memory and the whole instruction memory are
as before; only A, PC and the reset input's position may differ. (R120, R22, R47) -/
def Obligations.AddressLoadFrame : Prop :=
  ∀ (v : BitVec 15) (s t : State), exec (.aload v) s = .next t →
    t.d = s.d ∧ (∀ k, Memory.byteAt t.dm k = Memory.byteAt s.dm k) ∧ t.im = s.im ∧ t.resetIn = s.resetIn.tail

/-- Whenever any compute instruction answers a next state: A is unchanged without dA, D is unchanged without dD, the
instruction memory is unchanged, every byte of the data memory is unchanged without dM, and with dM every byte
outside the two bytes of the word at the address the meaning stores to (the old A[14:0]) is unchanged. A[14:0] as
address and target is the spec's own choice D3 (log entry 10). (R128, R129, R130, R47, R49) -/
def Obligations.ComputeFrame : Prop :=
  ∀ (i : Instr) (c : CompFields) (s t : State), i.fields = .inr c → exec i s = .next t →
    (c.dest.dA = false → t.a = s.a) ∧ (c.dest.dD = false → t.d = s.d) ∧
      (c.dest.dM = false → ∀ k, Memory.byteAt t.dm k = Memory.byteAt s.dm k) ∧
      (∀ k, k ≠ Memory.lowByteAddr s.memAddr → k ≠ Memory.lowByteAddr s.memAddr + 1 →
        Memory.byteAt t.dm k = Memory.byteAt s.dm k) ∧
      t.im = s.im ∧ t.resetIn = s.resetIn.tail

/-- In a state with canonical data memory, after any instruction every data word reads as before, except that the word
at the old A[14:0] reads as the ALU result of that tick if the instruction is a compute instruction with dM set,
also when the same instruction read that word or loaded A. When a store takes effect is the spec's own choice D7
(log entry 13). (R49, R50, R51) -/
def Obligations.DataWordsAfterAnInstruction : Prop :=
  ∀ (i : Instr) (s t : State), Memory.wf s.dm = true → exec i s = .next t →
    match i.fields with
    | .inl _ => ∀ n, Memory.readWord t.dm n = Memory.readWord s.dm n
    | .inr c => ∀ n, Memory.readWord t.dm n =
        if c.dest.dM = true ∧ n = lowAddr s.a then (cpuAlu s.d (Claims.secondOperand s c.a) c.ctl).out
        else Memory.readWord s.dm n

/-- Over one step from any state, with w the word at PC: if A changed, w is an address-load or has bit 5; if D changed,
w is a compute instruction with bit 4; if the data memory changed, w is a compute instruction with bit 3; if bit 15
of A became 1, w is a compute instruction. (R21, R22, R95, R96) -/
def Obligations.OnlyTheseBitsWrite : Prop :=
  ∀ s t : State, step s = .next t →
    let w := Memory.readWord s.im s.pc
    (t.a ≠ s.a → w.getLsbD 15 = false ∨ w.getLsbD 5 = true) ∧
      (t.d ≠ s.d → w.getLsbD 15 = true ∧ w.getLsbD 4 = true) ∧
      (t.dm ≠ s.dm → w.getLsbD 15 = true ∧ w.getLsbD 3 = true) ∧
      (s.a.getLsbD 15 = false → t.a.getLsbD 15 = true → w.getLsbD 15 = true)

/-- The A, D and data memory an instruction leaves do not depend on PC: from two states that differ only in PC, each
instruction leaves the same A, D and data memory. (R23) -/
def Obligations.ProgramCounterIsNoData : Prop :=
  ∀ (i : Instr) (s : State) (pc : Addr), ∃ t u, exec i s = .next t ∧ exec i { s with pc := pc } = .next u ∧
    t.a = u.a ∧ t.d = u.d ∧ t.dm = u.dm

/-- From two states that differ only in their data memory, an address-load or a compute instruction with a = 0 leaves
the same A, D and PC and stores the same word, if it stores one, at the same address, the old A[14:0]. A[14:0] as
address and target is the spec's own choice D3 (log entry 10). (R42, R125) -/
def Obligations.UnselectedMemoryWordIsNotRead : Prop :=
  ∀ (i : Instr) (s : State) (m : Memory), (∀ c, i.fields = .inr c → c.a = .regA) →
    ∃ (t u : State) (stored : Option Word), exec i s = .next t ∧ exec i { s with dm := m } = .next u ∧
      t.a = u.a ∧ t.d = u.d ∧ t.pc = u.pc ∧
      t.dm = (match stored with | none => s.dm | some w => Memory.writeWord s.dm s.memAddr w) ∧
      u.dm = match stored with | none => m | some w => Memory.writeWord m s.memAddr w

/-- For every compute instruction with dA and dM set and condition code 111, in a state without reset: A becomes the
result, the result is written at the old A[14:0], and PC becomes the old A[14:0]. A[14:0] as address and target is
the spec's own choice D3 (log entry 10). (R140, R141, R280) -/
def Obligations.OldAddressEverywhere : Prop :=
  ∀ (i : Instr) (c : CompFields) (s : State), i.fields = .inr c → c.dest.dA = true → c.dest.dM = true →
    c.cond = Cond.always → s.resetIn.head? ≠ some true →
    ∃ t, exec i s = .next t ∧ t.a = (cpuAlu s.d (Claims.secondOperand s c.a) c.ctl).out ∧
      t.dm = Memory.writeWord s.dm (BitVec.ofNat 15 s.a.toNat) t.a ∧ t.pc = BitVec.ofNat 15 s.a.toNat

/-- For every ALU and every state, the tick of a word with bit 15 set and bits 5 to 0 clear leaves A, D and both
memories as they were and moves PC by the default rule. The wrap of PC is the spec's own choice D4 (log entry 11).
(R69, R131, R153) -/
def Obligations.WordsThatOnlyAdvance : Prop :=
  ∀ (alu : Alu) (s : State), (Memory.readWord s.im s.pc).getLsbD 15 = true →
    (Memory.readWord s.im s.pc).extractLsb' 0 6 = 0 →
    s.tick alu = { s with pc := Claims.pcAfter s false, resetIn := s.resetIn.tail } ∧ step s = .next (s.tick alu)

/-- After any instruction PC is 0 if reset is asserted; else A[14:0] of before if it is a compute instruction whose
condition code matches its result; else one more than before, 0x7FFF being followed by 0. A[14:0] and the wrap of PC
are the spec's own choices D3 and D4 (log entries 10 and 11). (R24, R100, R161) -/
def Obligations.ProgramCounterPriorities : Prop :=
  ∀ (i : Instr) (s : State), ∃ t, exec i s = .next t ∧
    t.pc.toNat =
      if s.resetIn.head? = some true then 0
      else if (match i.fields with
          | .inl _ => false
          | .inr c => Claims.condMet c.cond (cpuAlu s.d (Claims.secondOperand s c.a) c.ctl)) then s.a.toNat % 32768
      else if s.pc.toNat = 32767 then 0 else s.pc.toNat + 1

/-- In every state with the reset input asserted every instruction, and so every step, answers a next state with PC 0,
whose next fetch is the instruction-memory word at address 0. That the next fetch reads the instruction memory is
the spec's reference environment (log entry 12). (R271) -/
def Obligations.ResetForcesPcToZero : Prop :=
  ∀ s : State, s.resetIn.head? = some true →
    (∀ i, ∃ t, exec i s = .next t ∧ t.pc = 0 ∧ t.fetchWord = Memory.readWord s.im 0) ∧
      ∃ t, step s = .next t ∧ t.pc = 0

/-- The step with reset asserted and the step without it, from states alike in everything else, leave the same A, D,
data memory and instruction memory; they differ in PC alone, which reset makes 0. (R272, R256) -/
def Obligations.ResetTouchesOnlyPc : Prop :=
  ∀ (s : State) (rest : List Bool), ∃ t,
    step { s with resetIn := false :: rest } = .next t ∧ step { s with resetIn := true :: rest } = .next { t with pc := 0 }

/-- If the reset input is asserted for the coming k ticks, PC is 0 after each of the first 1 to k ticks. (R273) -/
def Obligations.HeldResetHoldsPc : Prop :=
  ∀ (k n : Nat) (s : State) (rest : List Bool), s.resetIn = List.replicate k true ++ rest → 1 ≤ n → n ≤ k →
    ∃ t, RunsTo n s t ∧ t.pc = 0

/-- In the launch state A, D and PC are 0 (the spec's defaults), no reset is scheduled in any tick to come, and every
data and instruction word reads 0. The zero registers are the spec's default where the source also allows
caller-supplied values (log entry 4); the zero words (log entry 5) and the absent reset (log entry 6) are the
model's choice. (R32, R33, R285) -/
def Obligations.LaunchStateContents : Prop :=
  State.reset.a = 0 ∧ State.reset.d = 0 ∧ State.reset.pc = 0 ∧ State.reset.resetIn = [] ∧
    (∀ k, State.reset.resetIn.getD k Config.unlistedReset = false) ∧
    ∀ n : Addr, Memory.readWord State.reset.dm n = 0 ∧ Memory.readWord State.reset.im n = 0

/-- In a canonical memory, after writing w at word address n, the word at n reads w and the word at every other address
reads as before. (R48, R51) -/
def Obligations.MemoryIsWordStorage : Prop :=
  ∀ (m : Memory) (n k : Addr) (w : Word), Memory.wf m = true →
    Memory.readWord (Memory.writeWord m n w) k = if k = n then w else Memory.readWord m k

/-- If two canonical memories read the same word at every one of the 2^15 addresses, they are equal as data: the
canonical form is the model's (log entry 2). (R43, 20_memory.md section 2) -/
def Obligations.EqualContentsAreEqualMemories : Prop :=
  ∀ m m' : Memory, Memory.wf m = true → Memory.wf m' = true →
    (∀ n : Addr, Memory.readWord m n = Memory.readWord m' n) → m = m'

/-- From every state whose two memories are canonical (addresses strictly rising, inside the address space, nothing
listed that reads as unlisted), every step answers a state whose two memories are canonical; so does every run.
(R43, R49, 20_memory.md sections 2 and 3) -/
def Obligations.StepKeepsMemoriesCanonical : Prop :=
  (∀ s t : State, s.Inv → step s = .next t → t.Inv) ∧
    ∀ (n : Nat) (s t : State), s.Inv → RunsTo n s t → t.Inv

/-- The launch state meets the invariant, and so does any state that meets it after any word is placed at PC. (R285,
20_memory.md section 3) -/
def Obligations.LaunchMemoriesAreCanonical : Prop :=
  State.reset.Inv ∧ ∀ (s : State) (w : Word), s.Inv → (s.placeWord w).Inv

/-- After any number of ticks from any state the instruction memory is what it was: no store is ever seen by a fetch.
That the two memories are separate is the spec's own reference environment (log entry 12). (R47, R54) -/
def Obligations.NoRunWritesTheInstructionMemory : Prop :=
  ∀ (n : Nat) (s t : State), RunsTo n s t → t.im = s.im

/-- For every ALU: if the word at PC = e is an address-load of e, the word at e + 1 is a compute word with no
destination and condition code 111, and the next two ticks have no reset, then after two ticks A is e, PC is e
again, and D and both memories are unchanged. A[14:0] as address and target is the spec's own choice D3 (log entry
10). (R291) -/
def Obligations.SelfLoopForEveryAlu : Prop :=
  ∀ (alu : Alu) (s : State) (c : CompFields), Memory.readWord s.im s.pc = packLiteral s.pc →
    Memory.readWord s.im (s.pc + 1) = c.pack → c.dest = Dest.nowhere → c.cond = Cond.always →
    s.resetIn.head? ≠ some true → s.resetIn.tail.head? ≠ some true →
    (s.tick alu).tick alu = { s with a := BitVec.ofNat 16 s.pc.toNat, resetIn := s.resetIn.tail.tail }

/-- In a state inside the loop (A = PC = e, the word at e an address-load of e, the word at e + 1 the jump 0xEA87, no
reset in the two ticks) the machine is in a terminal self-loop of length two. A[14:0] as address and target is the
spec's own choice D3 (log entry 10). (R290, R291) -/
def Obligations.SelfLoopIsTerminal : Prop :=
  ∀ s : State, s.a = BitVec.ofNat 16 s.pc.toNat → Memory.readWord s.im s.pc = packLiteral s.pc →
    Memory.readWord s.im (s.pc + 1) = 0xEA87 → s.resetIn.head? ≠ some true → s.resetIn.tail.head? ≠ some true →
    TerminalLoop 2 s

/-- With the fault type and the refusal type of the core, both empty, every outcome that can be written is a next state;
and in every state the step the host runs (fetch, decode, per-instruction meaning) is the core's step, the network's
tick, read in the host's wider outcome type (log entry 19). The ALU instance is log entry 3. (R266, R103) -/
def Obligations.CoreHasOneOutcome : Prop :=
  (∀ o : Host.Outcome State Fault CoreRefusal, ∃ t, o = .next t) ∧
    ∀ s : State, step s = outcomeForHost (coreStep cpuAlu s)
end

