-- ==== Sys2Proof/Laws/Encoding.lean ====
section
/-! SUPPORT. The field-level laws of the encoding: packing the fields of a word and reading them back agree in both
directions, and naming a compute word loses none of its fields. -/

namespace Sys2Proof

/-- Reading bit 12 of a packed operand select gives it back. -/
@[simp] theorem ofBit_bit (a : Operand) : Operand.ofBit a.bit = a := by cases a <;> rfl

/-- Packing an operand select read from a bit gives the bit back. -/
@[simp] theorem bit_ofBit (b : Bool) : (Operand.ofBit b).bit = b := by cases b <;> rfl

/-- The bits of a packed compute word, bit 0 first (R62). -/
theorem getLsbD_pack (c : CompFields) (i : Nat) : c.pack.getLsbD i =
    ([c.cond.j0, c.cond.j1, c.cond.j2, c.dest.dM, c.dest.dD, c.dest.dA, c.ctl.no, c.ctl.f, c.ctl.ny, c.ctl.zy,
      c.ctl.nx, c.ctl.zx, c.a.bit, c.ign.getLsbD 0, c.ign.getLsbD 1, true] : List Bool).getD i false := by
  by_cases h : i < 16
  · interval_cases i <;>
      simp only [CompFields.pack, BitVec.getLsbD_cast, BitVec.getLsbD_append, BitVec.getLsbD_ofBool] <;> simp
  · rw [BitVec.getLsbD_of_ge _ _ (by omega), List.getD_eq_default]
    simpa using h

/-- The bits of a packed literal are the literal's (R61, R68). -/
theorem getLsbD_packLiteral (v : BitVec 15) (i : Nat) : (packLiteral v).getLsbD i = v.getLsbD i := by
  simp only [packLiteral, BitVec.getLsbD_cast, BitVec.getLsbD_append]
  split
  · rfl
  · simpa using (BitVec.getLsbD_of_ge v i (by omega))

/-- The fields of a packed compute word are the fields packed. -/
theorem ofWord_pack (c : CompFields) : CompFields.ofWord c.pack = c := by
  have hign : c.pack.extractLsb' 13 2 = c.ign := by
    apply BitVec.eq_of_getLsbD_eq
    intro i hi
    rw [BitVec.getLsbD_extractLsb', getLsbD_pack]
    interval_cases i <;> simp
  obtain ⟨ign, a, ctl, dest, cond⟩ := c
  simp only [CompFields.ofWord, hign, getLsbD_pack]
  simp

/-- Packing the fields of a compute word gives the word back. -/
theorem pack_ofWord (w : Word) (h : w.getLsbD 15 = true) : (CompFields.ofWord w).pack = w := by
  apply BitVec.eq_of_getLsbD_eq
  intro i hi
  rw [getLsbD_pack]
  interval_cases i <;> simp only [CompFields.ofWord, bit_ofBit, BitVec.getLsbD_extractLsb'] <;> simp_all

/-- The literal of a packed address-load is the literal packed. -/
theorem extract_packLiteral (v : BitVec 15) : (packLiteral v).extractLsb' 0 15 = v := by
  apply BitVec.eq_of_getLsbD_eq
  intro i hi
  simp only [BitVec.getLsbD_extractLsb', getLsbD_packLiteral, hi, Nat.zero_add, decide_true, Bool.true_and]

/-- Packing the literal of an address-load word gives the word back. -/
theorem packLiteral_extract (w : Word) (h : w.getLsbD 15 = false) : packLiteral (w.extractLsb' 0 15) = w := by
  apply BitVec.eq_of_getLsbD_eq
  intro i hi
  rw [getLsbD_packLiteral, BitVec.getLsbD_extractLsb', Nat.zero_add]
  by_cases h15 : i < 15
  · simp only [h15, decide_true, Bool.true_and]
  · obtain rfl : i = 15 := by omega
    exact h.symm

/-- A word put together from its two bytes is the word. -/
theorem wordOfBytes_bytesOfWord (w : Word) : wordOfBytes (w.extractLsb' 0 8) (w.extractLsb' 8 8) = w := by
  apply BitVec.eq_of_getLsbD_eq
  intro i hi
  simp only [wordOfBytes, BitVec.getLsbD_append, BitVec.getLsbD_extractLsb']
  by_cases h : i < 8
  · simp [h]
  · have h' : i - 8 < 8 := by omega
    have h8 : 8 + (i - 8) = i := by omega
    simp [h, h', h8]

/-- The constructor of a control code's row keeps every field. -/
theorem fields_nameCtl (ign : BitVec 2) (a : Operand) (c : Ctl) (d : Dest) (j : Cond) :
    (nameCtl ign a c d j).fields = .inr ⟨ign, a, c, d, j⟩ := by
  obtain ⟨zx, nx, zy, ny, f, no⟩ := c
  cases zx <;> cases nx <;> cases zy <;> cases ny <;> cases f <;> cases no <;> rfl

/-- The constructor of a destination field's row keeps every field. -/
theorem fields_nameDest (ign : BitVec 2) (a : Operand) (c : Ctl) (d : Dest) (j : Cond) :
    (nameDest ign a c d j).fields = .inr ⟨ign, a, c, d, j⟩ := by
  obtain ⟨dA, dD, dM⟩ := d
  cases dA <;> cases dD <;> cases dM <;> rfl

/-- The constructor of a condition code's row keeps every field. -/
theorem fields_nameJump (ign : BitVec 2) (a : Operand) (c : Ctl) (d : Dest) (j : Cond) :
    (nameJump ign a c d j).fields = .inr ⟨ign, a, c, d, j⟩ := by
  obtain ⟨j2, j1, j0⟩ := j
  cases j2 <;> cases j1 <;> cases j0 <;> rfl

/-- The constructor a compute word is answered as keeps every field of the word. -/
theorem fields_nameComp (c : CompFields) : (nameComp c).fields = .inr c := by
  obtain ⟨ign, a, ctl, dest, cond⟩ := c
  simp only [nameComp, nameZeroCtl]
  split
  · rename_i h
    subst h
    split
    · split
      · cases a <;> rfl
      · cases a
        · exact fields_nameJump ..
        · rename_i h _
          subst h
          rfl
    · split
      · cases a
        · exact fields_nameDest ..
        · rename_i h
          subst h
          rfl
      · cases a <;> rfl
  · exact fields_nameCtl ..

end Sys2Proof
end

