-- ==== Sys2Proof/Laws/State.lean ====
section
/-! SUPPORT. One lemma per field per update of the state: what the commit, the launch state and the placing of an
instruction leave in each field. -/

namespace Sys2Proof.Machine

@[simp] theorem commit_a (s : State) (e : Effect) : (s.commit e).a = e.setA.getD s.a := rfl
@[simp] theorem commit_d (s : State) (e : Effect) : (s.commit e).d = e.setD.getD s.d := rfl
@[simp] theorem commit_pc (s : State) (e : Effect) : (s.commit e).pc = s.nextPc e.jump := rfl
@[simp] theorem commit_im (s : State) (e : Effect) : (s.commit e).im = s.im := rfl
@[simp] theorem commit_resetIn (s : State) (e : Effect) : (s.commit e).resetIn = s.resetIn.tail := rfl
@[simp] theorem commit_dm_none (s : State) (x y : Option Word) (j : Bool) :
    (s.commit ⟨x, y, none, j⟩).dm = s.dm := rfl
@[simp] theorem commit_dm_some (s : State) (x y : Option Word) (w : Word) (j : Bool) :
    (s.commit ⟨x, y, some w, j⟩).dm = Memory.writeWord s.dm s.memAddr w := rfl

@[simp] theorem placeWord_a (s : State) (w : Word) : (s.placeWord w).a = s.a := rfl
@[simp] theorem placeWord_d (s : State) (w : Word) : (s.placeWord w).d = s.d := rfl
@[simp] theorem placeWord_pc (s : State) (w : Word) : (s.placeWord w).pc = s.pc := rfl
@[simp] theorem placeWord_dm (s : State) (w : Word) : (s.placeWord w).dm = s.dm := rfl
@[simp] theorem placeWord_im (s : State) (w : Word) : (s.placeWord w).im = Memory.writeWord s.im s.pc w := rfl
@[simp] theorem placeWord_resetIn (s : State) (w : Word) : (s.placeWord w).resetIn = s.resetIn := rfl

@[simp] theorem reset_a : State.reset.a = Config.initA := rfl
@[simp] theorem reset_d : State.reset.d = Config.initD := rfl
@[simp] theorem reset_pc : State.reset.pc = Config.initPc := rfl
@[simp] theorem reset_dm : State.reset.dm = [] := rfl
@[simp] theorem reset_im : State.reset.im = [] := rfl
@[simp] theorem reset_resetIn : State.reset.resetIn = [] := rfl

/-- Reset beats everything (R161). -/
theorem nextPc_of_reset (s : State) (j : Bool) (h : s.resetLine = true) : s.nextPc j = 0 := by
  simp [State.nextPc, h]

/-- Without reset, a taken jump goes to the old A[14:0] (R152). -/
theorem nextPc_of_jump (s : State) (h : s.resetLine = false) : s.nextPc true = s.memAddr := by
  simp [State.nextPc, h]

/-- Without reset and without a jump, PC counts up modulo 2^15 (R24). -/
theorem nextPc_of_no_jump (s : State) (h : s.resetLine = false) : s.nextPc false = s.pc + 1 := by
  simp [State.nextPc, h]

end Sys2Proof.Machine
end

