-- ==== Sys2Proof/Laws/Memory.lean ====
section
/-! SUPPORT. The laws of the byte operations of a memory, and that every operation keeps the canonical form. -/

namespace Sys2Proof.Machine

/-- A byte write leaves every other byte, in any list. -/
theorem byteAt_setByte_of_ne (m : Memory) (n k : Nat) (b : Byte) (h : k ≠ n) :
    Memory.byteAt (Memory.setByte m n b) k = Memory.byteAt m k := by
  induction m with
  | nil => by_cases hb : b = Config.unlistedByte <;> simp [Memory.setByte, Memory.byteAt, hb, Ne.symm h]
  | cons c rest ih =>
    obtain ⟨k', v⟩ := c
    simp only [Memory.setByte]
    split
    · split
      · rfl
      · simp [Memory.byteAt, Ne.symm h]
    · split
      · rename_i heq
        subst heq
        split <;> simp [Memory.byteAt, Ne.symm h]
      · simp only [Memory.byteAt, ih]

/-- A memory whose cells all start at `lo` reads as unlisted below it. -/
theorem byteAt_below (m : Memory) (lo n : Nat) (h : Memory.wfFrom lo m = true) (hn : n < lo) :
    Memory.byteAt m n = Config.unlistedByte := by
  induction m generalizing lo with
  | nil => rfl
  | cons c rest ih =>
    obtain ⟨k, v⟩ := c
    simp only [Memory.wfFrom, Bool.and_eq_true, decide_eq_true_eq] at h
    obtain ⟨⟨⟨h1, h2⟩, h3⟩, h4⟩ := h
    have hk : k ≠ n := by omega
    simp only [Memory.byteAt, hk, if_false]
    exact ih (k + 1) h4 (by omega)

/-- A byte write is read back, in a canonical memory. -/
theorem byteAt_setByte_self (m : Memory) (lo n : Nat) (b : Byte) (h : Memory.wfFrom lo m = true) :
    Memory.byteAt (Memory.setByte m n b) n = b := by
  induction m generalizing lo with
  | nil => by_cases hb : b = Config.unlistedByte <;> simp [Memory.setByte, Memory.byteAt, hb]
  | cons c rest ih =>
    obtain ⟨k, v⟩ := c
    have h' := h
    simp only [Memory.wfFrom, Bool.and_eq_true, decide_eq_true_eq] at h'
    obtain ⟨⟨⟨h1, h2⟩, h3⟩, h4⟩ := h'
    simp only [Memory.setByte]
    split
    · rename_i hlt
      split
      · rename_i hb
        have hk : k ≠ n := by omega
        simp only [Memory.byteAt, hk, if_false, hb]
        exact byteAt_below rest (k + 1) n h4 (by omega)
      · simp [Memory.byteAt]
    · split
      · rename_i heq
        subst heq
        split
        · rename_i hb
          rw [hb]
          exact byteAt_below rest (n + 1) n h4 (by omega)
        · simp [Memory.byteAt]
      · rename_i hne
        simp only [Memory.byteAt, Ne.symm hne, if_false]
        exact ih (k + 1) h4

/-- A canonical memory from `lo` on is one from any lower bound. -/
theorem wfFrom_mono (m : Memory) (lo lo' : Nat) (h : Memory.wfFrom lo m = true) (hl : lo' ≤ lo) :
    Memory.wfFrom lo' m = true := by
  cases m with
  | nil => rfl
  | cons c rest =>
    obtain ⟨k, v⟩ := c
    simp only [Memory.wfFrom, Bool.and_eq_true, decide_eq_true_eq] at h ⊢
    exact ⟨⟨⟨by omega, h.1.1.2⟩, h.1.2⟩, h.2⟩

/-- A byte write keeps the canonical form. -/
theorem wfFrom_setByte (m : Memory) (lo n : Nat) (b : Byte) (h : Memory.wfFrom lo m = true) (hlo : lo ≤ n)
    (hn : n < 65536) : Memory.wfFrom lo (Memory.setByte m n b) = true := by
  induction m generalizing lo with
  | nil => by_cases hb : b = Config.unlistedByte <;> simp [Memory.setByte, Memory.wfFrom, hb, hlo, hn]
  | cons c rest ih =>
    obtain ⟨k, v⟩ := c
    have h' := h
    simp only [Memory.wfFrom, Bool.and_eq_true, decide_eq_true_eq] at h'
    obtain ⟨⟨⟨h1, h2⟩, h3⟩, h4⟩ := h'
    simp only [Memory.setByte]
    split
    · rename_i hlt
      split
      · exact h
      · rename_i hb
        simp only [Memory.wfFrom, Bool.and_eq_true, decide_eq_true_eq, bne_iff_ne]
        exact ⟨⟨⟨hlo, hn⟩, hb⟩, ⟨⟨⟨by omega, h2⟩, by simpa using h3⟩, h4⟩⟩
    · split
      · rename_i heq
        subst heq
        split
        · exact wfFrom_mono rest (n + 1) lo h4 (by omega)
        · rename_i hb
          simp only [Memory.wfFrom, Bool.and_eq_true, decide_eq_true_eq, bne_iff_ne]
          exact ⟨⟨⟨hlo, hn⟩, hb⟩, h4⟩
      · simp only [Memory.wfFrom, Bool.and_eq_true, decide_eq_true_eq]
        exact ⟨⟨⟨h1, h2⟩, h3⟩, ih (k + 1) h4 (by omega)⟩

/-- A byte write within the address space keeps the canonical form. -/
theorem wf_setByte (m : Memory) (n : Nat) (b : Byte) (h : Memory.wf m = true) (hn : n < 65536) :
    Memory.wf (Memory.setByte m n b) = true := wfFrom_setByte m 0 n b h (Nat.zero_le n) hn

/-- Both bytes of every word lie within the address space. -/
theorem lowByteAddr_lt (n : Addr) : Memory.lowByteAddr n + 1 < 65536 := by
  have := n.isLt
  simp only [Memory.lowByteAddr]
  omega

/-- A word write keeps the canonical form. -/
theorem wf_writeWord (m : Memory) (n : Addr) (w : Word) (h : Memory.wf m = true) :
    Memory.wf (Memory.writeWord m n w) = true :=
  wf_setByte _ _ _ (wf_setByte _ _ _ h (by have := lowByteAddr_lt n; omega)) (lowByteAddr_lt n)

/-- A word write leaves every byte but the word's own two, in any list. -/
theorem byteAt_writeWord_of_ne (m : Memory) (n : Addr) (w : Word) (k : Nat)
    (h : k ≠ Memory.lowByteAddr n) (h' : k ≠ Memory.lowByteAddr n + 1) :
    Memory.byteAt (Memory.writeWord m n w) k = Memory.byteAt m k := by
  rw [Memory.writeWord, byteAt_setByte_of_ne _ _ _ _ h', byteAt_setByte_of_ne _ _ _ _ h]

/-- The empty memory is canonical. -/
theorem wf_nil : Memory.wf [] = true := rfl

/-- The commit keeps the data memory canonical. -/
theorem wf_commit_dm (s : State) (e : Effect) (h : Memory.wf s.dm = true) : Memory.wf (s.commit e).dm = true := by
  obtain ⟨x, y, st, j⟩ := e
  cases st with
  | none => exact h
  | some w => exact wf_writeWord _ _ _ h

/-- Placing an instruction keeps the instruction memory canonical. -/
theorem wf_placeWord_im (s : State) (w : Word) (h : Memory.wf s.im = true) : Memory.wf (s.placeWord w).im = true :=
  wf_writeWord _ _ _ h

end Sys2Proof.Machine
end

