-- ==== Sys2Proof/Laws/Exec.lean ====
section
/-! SUPPORT. What an instruction can do, said once: `exec` depends on an instruction only through its fields, and
answers the commit of what those fields ask. -/

namespace Sys2Proof.Machine

/-- What an instruction's fields ask of the commit: R120's load of the literal, or R127's effect. -/
def effectOf (f : BitVec 15 ⊕ CompFields) (s : State) : Effect :=
  match f with
  | .inl v => { setA := some (zextWord v), setD := none, store := none, jump := false }
  | .inr c => computeEffect cpuAlu c.a c.ctl c.dest c.cond s

/-- Every meaning is one commit, of what the instruction's fields ask. -/
theorem exec_eq_commit (i : Instr) (s : State) : exec i s = .next (s.commit (effectOf i.fields s)) := by
  cases i <;> rfl

/-- What the core answers reaches the host unchanged. -/
@[simp] theorem outcomeForHost_next (t : State) : outcomeForHost (.next t) = .next t := rfl

end Sys2Proof.Machine
end

