-- ==== Sys2Proof/Laws/PerInstr.lean ====
section
/-! SUPPORT. The per-instruction family TypeBit: bit 15 of an instruction's word is 0 for the address-load and 1 for
every compute instruction (R60), one lemma per constructor. -/

namespace Sys2Proof.Laws.TypeBit

/-- The type bit of an instruction's word says which of the two formats it has (R60, R61, R62). -/
def Statement (i : Instr) : Prop := (encode i).getLsbD 15 = i.fields.isRight

/-- The type bit of a packed compute word is 1. -/
theorem of_pack (c : CompFields) : c.pack.getLsbD 15 = true := by
  rw [getLsbD_pack]
  rfl

/-- The type bit of a packed literal is 0. -/
theorem of_packLiteral (v : BitVec 15) : (packLiteral v).getLsbD 15 = false := by
  rw [getLsbD_packLiteral]
  exact BitVec.getLsbD_of_ge v 15 (by omega)

theorem aload (v : BitVec 15) : Statement (.aload v) := of_packLiteral v
theorem comp (ign : BitVec 2) (a : Operand) (c : Ctl) (d : Dest) (j : Cond) : Statement (.comp ign a c d j) := of_pack _
theorem compA0 (ign : BitVec 2) (c : Ctl) (d : Dest) (j : Cond) : Statement (.compA0 ign c d j) := of_pack _
theorem compA1 (ign : BitVec 2) (c : Ctl) (d : Dest) (j : Cond) : Statement (.compA1 ign c d j) := of_pack _
theorem compCtl000000 (ign : BitVec 2) (a : Operand) (d : Dest) (j : Cond) : Statement (.compCtl000000 ign a d j) := of_pack _
theorem compCtl000001 (ign : BitVec 2) (a : Operand) (d : Dest) (j : Cond) : Statement (.compCtl000001 ign a d j) := of_pack _
theorem compCtl000010 (ign : BitVec 2) (a : Operand) (d : Dest) (j : Cond) : Statement (.compCtl000010 ign a d j) := of_pack _
theorem compCtl000011 (ign : BitVec 2) (a : Operand) (d : Dest) (j : Cond) : Statement (.compCtl000011 ign a d j) := of_pack _
theorem compCtl000100 (ign : BitVec 2) (a : Operand) (d : Dest) (j : Cond) : Statement (.compCtl000100 ign a d j) := of_pack _
theorem compCtl000101 (ign : BitVec 2) (a : Operand) (d : Dest) (j : Cond) : Statement (.compCtl000101 ign a d j) := of_pack _
theorem compCtl000110 (ign : BitVec 2) (a : Operand) (d : Dest) (j : Cond) : Statement (.compCtl000110 ign a d j) := of_pack _
theorem compCtl000111 (ign : BitVec 2) (a : Operand) (d : Dest) (j : Cond) : Statement (.compCtl000111 ign a d j) := of_pack _
theorem compCtl001000 (ign : BitVec 2) (a : Operand) (d : Dest) (j : Cond) : Statement (.compCtl001000 ign a d j) := of_pack _
theorem compCtl001001 (ign : BitVec 2) (a : Operand) (d : Dest) (j : Cond) : Statement (.compCtl001001 ign a d j) := of_pack _
theorem compCtl001010 (ign : BitVec 2) (a : Operand) (d : Dest) (j : Cond) : Statement (.compCtl001010 ign a d j) := of_pack _
theorem compCtl001011 (ign : BitVec 2) (a : Operand) (d : Dest) (j : Cond) : Statement (.compCtl001011 ign a d j) := of_pack _
theorem compCtl001100 (ign : BitVec 2) (a : Operand) (d : Dest) (j : Cond) : Statement (.compCtl001100 ign a d j) := of_pack _
theorem compCtl001101 (ign : BitVec 2) (a : Operand) (d : Dest) (j : Cond) : Statement (.compCtl001101 ign a d j) := of_pack _
theorem compCtl001110 (ign : BitVec 2) (a : Operand) (d : Dest) (j : Cond) : Statement (.compCtl001110 ign a d j) := of_pack _
theorem compCtl001111 (ign : BitVec 2) (a : Operand) (d : Dest) (j : Cond) : Statement (.compCtl001111 ign a d j) := of_pack _
theorem compCtl010000 (ign : BitVec 2) (a : Operand) (d : Dest) (j : Cond) : Statement (.compCtl010000 ign a d j) := of_pack _
theorem compCtl010001 (ign : BitVec 2) (a : Operand) (d : Dest) (j : Cond) : Statement (.compCtl010001 ign a d j) := of_pack _
theorem compCtl010010 (ign : BitVec 2) (a : Operand) (d : Dest) (j : Cond) : Statement (.compCtl010010 ign a d j) := of_pack _
theorem compCtl010011 (ign : BitVec 2) (a : Operand) (d : Dest) (j : Cond) : Statement (.compCtl010011 ign a d j) := of_pack _
theorem compCtl010100 (ign : BitVec 2) (a : Operand) (d : Dest) (j : Cond) : Statement (.compCtl010100 ign a d j) := of_pack _
theorem compCtl010101 (ign : BitVec 2) (a : Operand) (d : Dest) (j : Cond) : Statement (.compCtl010101 ign a d j) := of_pack _
theorem compCtl010110 (ign : BitVec 2) (a : Operand) (d : Dest) (j : Cond) : Statement (.compCtl010110 ign a d j) := of_pack _
theorem compCtl010111 (ign : BitVec 2) (a : Operand) (d : Dest) (j : Cond) : Statement (.compCtl010111 ign a d j) := of_pack _
theorem compCtl011000 (ign : BitVec 2) (a : Operand) (d : Dest) (j : Cond) : Statement (.compCtl011000 ign a d j) := of_pack _
theorem compCtl011001 (ign : BitVec 2) (a : Operand) (d : Dest) (j : Cond) : Statement (.compCtl011001 ign a d j) := of_pack _
theorem compCtl011010 (ign : BitVec 2) (a : Operand) (d : Dest) (j : Cond) : Statement (.compCtl011010 ign a d j) := of_pack _
theorem compCtl011011 (ign : BitVec 2) (a : Operand) (d : Dest) (j : Cond) : Statement (.compCtl011011 ign a d j) := of_pack _
theorem compCtl011100 (ign : BitVec 2) (a : Operand) (d : Dest) (j : Cond) : Statement (.compCtl011100 ign a d j) := of_pack _
theorem compCtl011101 (ign : BitVec 2) (a : Operand) (d : Dest) (j : Cond) : Statement (.compCtl011101 ign a d j) := of_pack _
theorem compCtl011110 (ign : BitVec 2) (a : Operand) (d : Dest) (j : Cond) : Statement (.compCtl011110 ign a d j) := of_pack _
theorem compCtl011111 (ign : BitVec 2) (a : Operand) (d : Dest) (j : Cond) : Statement (.compCtl011111 ign a d j) := of_pack _
theorem compCtl100000 (ign : BitVec 2) (a : Operand) (d : Dest) (j : Cond) : Statement (.compCtl100000 ign a d j) := of_pack _
theorem compCtl100001 (ign : BitVec 2) (a : Operand) (d : Dest) (j : Cond) : Statement (.compCtl100001 ign a d j) := of_pack _
theorem compCtl100010 (ign : BitVec 2) (a : Operand) (d : Dest) (j : Cond) : Statement (.compCtl100010 ign a d j) := of_pack _
theorem compCtl100011 (ign : BitVec 2) (a : Operand) (d : Dest) (j : Cond) : Statement (.compCtl100011 ign a d j) := of_pack _
theorem compCtl100100 (ign : BitVec 2) (a : Operand) (d : Dest) (j : Cond) : Statement (.compCtl100100 ign a d j) := of_pack _
theorem compCtl100101 (ign : BitVec 2) (a : Operand) (d : Dest) (j : Cond) : Statement (.compCtl100101 ign a d j) := of_pack _
theorem compCtl100110 (ign : BitVec 2) (a : Operand) (d : Dest) (j : Cond) : Statement (.compCtl100110 ign a d j) := of_pack _
theorem compCtl100111 (ign : BitVec 2) (a : Operand) (d : Dest) (j : Cond) : Statement (.compCtl100111 ign a d j) := of_pack _
theorem compCtl101000 (ign : BitVec 2) (a : Operand) (d : Dest) (j : Cond) : Statement (.compCtl101000 ign a d j) := of_pack _
theorem compCtl101001 (ign : BitVec 2) (a : Operand) (d : Dest) (j : Cond) : Statement (.compCtl101001 ign a d j) := of_pack _
theorem compCtl101010 (ign : BitVec 2) (a : Operand) (d : Dest) (j : Cond) : Statement (.compCtl101010 ign a d j) := of_pack _
theorem compCtl101011 (ign : BitVec 2) (a : Operand) (d : Dest) (j : Cond) : Statement (.compCtl101011 ign a d j) := of_pack _
theorem compCtl101100 (ign : BitVec 2) (a : Operand) (d : Dest) (j : Cond) : Statement (.compCtl101100 ign a d j) := of_pack _
theorem compCtl101101 (ign : BitVec 2) (a : Operand) (d : Dest) (j : Cond) : Statement (.compCtl101101 ign a d j) := of_pack _
theorem compCtl101110 (ign : BitVec 2) (a : Operand) (d : Dest) (j : Cond) : Statement (.compCtl101110 ign a d j) := of_pack _
theorem compCtl101111 (ign : BitVec 2) (a : Operand) (d : Dest) (j : Cond) : Statement (.compCtl101111 ign a d j) := of_pack _
theorem compCtl110000 (ign : BitVec 2) (a : Operand) (d : Dest) (j : Cond) : Statement (.compCtl110000 ign a d j) := of_pack _
theorem compCtl110001 (ign : BitVec 2) (a : Operand) (d : Dest) (j : Cond) : Statement (.compCtl110001 ign a d j) := of_pack _
theorem compCtl110010 (ign : BitVec 2) (a : Operand) (d : Dest) (j : Cond) : Statement (.compCtl110010 ign a d j) := of_pack _
theorem compCtl110011 (ign : BitVec 2) (a : Operand) (d : Dest) (j : Cond) : Statement (.compCtl110011 ign a d j) := of_pack _
theorem compCtl110100 (ign : BitVec 2) (a : Operand) (d : Dest) (j : Cond) : Statement (.compCtl110100 ign a d j) := of_pack _
theorem compCtl110101 (ign : BitVec 2) (a : Operand) (d : Dest) (j : Cond) : Statement (.compCtl110101 ign a d j) := of_pack _
theorem compCtl110110 (ign : BitVec 2) (a : Operand) (d : Dest) (j : Cond) : Statement (.compCtl110110 ign a d j) := of_pack _
theorem compCtl110111 (ign : BitVec 2) (a : Operand) (d : Dest) (j : Cond) : Statement (.compCtl110111 ign a d j) := of_pack _
theorem compCtl111000 (ign : BitVec 2) (a : Operand) (d : Dest) (j : Cond) : Statement (.compCtl111000 ign a d j) := of_pack _
theorem compCtl111001 (ign : BitVec 2) (a : Operand) (d : Dest) (j : Cond) : Statement (.compCtl111001 ign a d j) := of_pack _
theorem compCtl111010 (ign : BitVec 2) (a : Operand) (d : Dest) (j : Cond) : Statement (.compCtl111010 ign a d j) := of_pack _
theorem compCtl111011 (ign : BitVec 2) (a : Operand) (d : Dest) (j : Cond) : Statement (.compCtl111011 ign a d j) := of_pack _
theorem compCtl111100 (ign : BitVec 2) (a : Operand) (d : Dest) (j : Cond) : Statement (.compCtl111100 ign a d j) := of_pack _
theorem compCtl111101 (ign : BitVec 2) (a : Operand) (d : Dest) (j : Cond) : Statement (.compCtl111101 ign a d j) := of_pack _
theorem compCtl111110 (ign : BitVec 2) (a : Operand) (d : Dest) (j : Cond) : Statement (.compCtl111110 ign a d j) := of_pack _
theorem compCtl111111 (ign : BitVec 2) (a : Operand) (d : Dest) (j : Cond) : Statement (.compCtl111111 ign a d j) := of_pack _
theorem compDest000 (ign : BitVec 2) (a : Operand) (c : Ctl) (j : Cond) : Statement (.compDest000 ign a c j) := of_pack _
theorem compDest001 (ign : BitVec 2) (a : Operand) (c : Ctl) (j : Cond) : Statement (.compDest001 ign a c j) := of_pack _
theorem compDest010 (ign : BitVec 2) (a : Operand) (c : Ctl) (j : Cond) : Statement (.compDest010 ign a c j) := of_pack _
theorem compDest011 (ign : BitVec 2) (a : Operand) (c : Ctl) (j : Cond) : Statement (.compDest011 ign a c j) := of_pack _
theorem compDest100 (ign : BitVec 2) (a : Operand) (c : Ctl) (j : Cond) : Statement (.compDest100 ign a c j) := of_pack _
theorem compDest101 (ign : BitVec 2) (a : Operand) (c : Ctl) (j : Cond) : Statement (.compDest101 ign a c j) := of_pack _
theorem compDest110 (ign : BitVec 2) (a : Operand) (c : Ctl) (j : Cond) : Statement (.compDest110 ign a c j) := of_pack _
theorem compDest111 (ign : BitVec 2) (a : Operand) (c : Ctl) (j : Cond) : Statement (.compDest111 ign a c j) := of_pack _
theorem compJump000 (ign : BitVec 2) (a : Operand) (c : Ctl) (d : Dest) : Statement (.compJump000 ign a c d) := of_pack _
theorem compJump001 (ign : BitVec 2) (a : Operand) (c : Ctl) (d : Dest) : Statement (.compJump001 ign a c d) := of_pack _
theorem compJump010 (ign : BitVec 2) (a : Operand) (c : Ctl) (d : Dest) : Statement (.compJump010 ign a c d) := of_pack _
theorem compJump011 (ign : BitVec 2) (a : Operand) (c : Ctl) (d : Dest) : Statement (.compJump011 ign a c d) := of_pack _
theorem compJump100 (ign : BitVec 2) (a : Operand) (c : Ctl) (d : Dest) : Statement (.compJump100 ign a c d) := of_pack _
theorem compJump101 (ign : BitVec 2) (a : Operand) (c : Ctl) (d : Dest) : Statement (.compJump101 ign a c d) := of_pack _
theorem compJump110 (ign : BitVec 2) (a : Operand) (c : Ctl) (d : Dest) : Statement (.compJump110 ign a c d) := of_pack _
theorem compJump111 (ign : BitVec 2) (a : Operand) (c : Ctl) (d : Dest) : Statement (.compJump111 ign a c d) := of_pack _

end Sys2Proof.Laws.TypeBit
end

