-- ==== Sys2Proof/Tests/Slice0.lean ====
section
/-! SUPPORT. The model's own tests: ill-formed terms refused, words written out from the encoding decoded, single ticks
with the values of spec/95_test_vectors.md, and, for every obligation with hypotheses, a concrete state and operands
that meet them. Every expected value is the spec's, or worked by hand from the rule named. -/

namespace Sys2Proof.Tests

open Sys2Proof Sys2Proof.Machine

/-- A machine with the given A, D and PC, the data word `m` at A[14:0], and the reset input of the coming tick. -/
def machine (a d : Word) (pc : Addr) (m : Word) (reset : Bool) : State where
  a := a
  d := d
  pc := pc
  dm := Memory.writeWord [] (lowAddr a) m
  im := []
  resetIn := [reset]

/-- A, D, PC and the data word at `n` in the state an outcome holds. -/
def view (n : Addr) : Host.Outcome State Fault Refusal → Option (Word × Word × Addr × Word)
  | .next t => some (t.a, t.d, t.pc, Memory.readWord t.dm n)
  | .fault _ => none
  | .refused _ => none

/-- What one tick on the word `w` leaves, the data word being the one at the old A[14:0]. -/
def tickOf (w : Word) (s : State) : Option (Word × Word × Addr × Word) := view s.memAddr (step (s.placeWord w))

/-- What executing `i` leaves, the data word being the one at the old A[14:0]. -/
def execOf (i : Instr) (s : State) : Option (Word × Word × Addr × Word) := view s.memAddr (exec i s)

/-- PC after executing `i` from A = 100, PC = 8 with the value `r` in D, as a list over several values. -/
def pcsOf (i : Instr) (rs : List Word) : List (Option Addr) :=
  rs.map fun r => (execOf i (machine 100 r 8 0 false)).map fun v => v.2.2.1

/-! ## Ill-formed terms (log entry 1): one for each check of `Instr.wellFormed` -/

/-- Each check on `comp` refuses a term. -/
theorem test_illformed_comp :
    ¬WellFormed (.comp 3 .mem Ctl.zero Dest.nowhere Cond.never) ∧
    ¬WellFormed (.comp 3 .regA ⟨true, false, false, false, false, false⟩ Dest.nowhere Cond.never) ∧
    ¬WellFormed (.comp 3 .regA Ctl.zero ⟨true, false, false⟩ Cond.never) ∧
    ¬WellFormed (.comp 3 .regA Ctl.zero Dest.nowhere Cond.always) := by
  and_intros <;> decide

/-- Each check on `compA0` refuses a term. -/
theorem test_illformed_compA0 :
    ¬WellFormed (.compA0 3 ⟨false, false, false, false, false, true⟩ ⟨true, false, false⟩ Cond.always) ∧
    ¬WellFormed (.compA0 3 Ctl.zero Dest.nowhere Cond.always) ∧
    ¬WellFormed (.compA0 3 Ctl.zero ⟨true, false, false⟩ Cond.never) := by
  and_intros <;> decide

/-- Each check on `compA1` refuses a term. -/
theorem test_illformed_compA1 :
    ¬WellFormed (.compA1 3 ⟨false, false, false, false, false, true⟩ Dest.nowhere Cond.never) ∧
    ¬WellFormed (.compA1 3 Ctl.zero ⟨true, false, false⟩ Cond.never) ∧
    ¬WellFormed (.compA1 3 Ctl.zero Dest.nowhere Cond.always) := by
  and_intros <;> decide

/-- Each check on `compCtl000000` refuses a term. -/
theorem test_illformed_compCtl000000 :
    ¬WellFormed (.compCtl000000 3 .regA ⟨true, false, false⟩ Cond.always) ∧
    ¬WellFormed (.compCtl000000 3 .mem Dest.nowhere Cond.always) ∧
    ¬WellFormed (.compCtl000000 3 .mem ⟨true, false, false⟩ Cond.never) := by
  and_intros <;> decide

/-- Each check on `compDest000` refuses a term. -/
theorem test_illformed_compDest000 :
    ¬WellFormed (.compDest000 3 .regA Ctl.zero Cond.always) ∧
    ¬WellFormed (.compDest000 3 .mem ⟨false, false, false, false, false, true⟩ Cond.always) ∧
    ¬WellFormed (.compDest000 3 .mem Ctl.zero Cond.never) := by
  and_intros <;> decide

/-- Each check on `compJump000` refuses a term. -/
theorem test_illformed_compJump000 :
    ¬WellFormed (.compJump000 3 .regA Ctl.zero ⟨true, false, false⟩) ∧
    ¬WellFormed (.compJump000 3 .mem ⟨false, false, false, false, false, true⟩ ⟨true, false, false⟩) ∧
    ¬WellFormed (.compJump000 3 .mem Ctl.zero Dest.nowhere) := by
  and_intros <;> decide

/-- Each check on `compDest001` refuses a term. -/
theorem test_illformed_compDest001 :
    ¬WellFormed (.compDest001 3 .mem Ctl.zero Cond.never) ∧
    ¬WellFormed (.compDest001 3 .regA ⟨false, false, false, false, false, true⟩ Cond.never) ∧
    ¬WellFormed (.compDest001 3 .regA Ctl.zero Cond.always) := by
  and_intros <;> decide

/-- Each check on `compDest010` refuses a term. -/
theorem test_illformed_compDest010 :
    ¬WellFormed (.compDest010 3 .mem Ctl.zero Cond.never) ∧
    ¬WellFormed (.compDest010 3 .regA ⟨false, false, false, false, false, true⟩ Cond.never) ∧
    ¬WellFormed (.compDest010 3 .regA Ctl.zero Cond.always) := by
  and_intros <;> decide

/-- Each check on `compDest011` refuses a term. -/
theorem test_illformed_compDest011 :
    ¬WellFormed (.compDest011 3 .mem Ctl.zero Cond.never) ∧
    ¬WellFormed (.compDest011 3 .regA ⟨false, false, false, false, false, true⟩ Cond.never) ∧
    ¬WellFormed (.compDest011 3 .regA Ctl.zero Cond.always) := by
  and_intros <;> decide

/-- Each check on `compDest100` refuses a term. -/
theorem test_illformed_compDest100 :
    ¬WellFormed (.compDest100 3 .mem Ctl.zero Cond.never) ∧
    ¬WellFormed (.compDest100 3 .regA ⟨false, false, false, false, false, true⟩ Cond.never) ∧
    ¬WellFormed (.compDest100 3 .regA Ctl.zero Cond.always) := by
  and_intros <;> decide

/-- Each check on `compDest101` refuses a term. -/
theorem test_illformed_compDest101 :
    ¬WellFormed (.compDest101 3 .mem Ctl.zero Cond.never) ∧
    ¬WellFormed (.compDest101 3 .regA ⟨false, false, false, false, false, true⟩ Cond.never) ∧
    ¬WellFormed (.compDest101 3 .regA Ctl.zero Cond.always) := by
  and_intros <;> decide

/-- Each check on `compDest110` refuses a term. -/
theorem test_illformed_compDest110 :
    ¬WellFormed (.compDest110 3 .mem Ctl.zero Cond.never) ∧
    ¬WellFormed (.compDest110 3 .regA ⟨false, false, false, false, false, true⟩ Cond.never) ∧
    ¬WellFormed (.compDest110 3 .regA Ctl.zero Cond.always) := by
  and_intros <;> decide

/-- Each check on `compDest111` refuses a term. -/
theorem test_illformed_compDest111 :
    ¬WellFormed (.compDest111 3 .mem Ctl.zero Cond.never) ∧
    ¬WellFormed (.compDest111 3 .regA ⟨false, false, false, false, false, true⟩ Cond.never) ∧
    ¬WellFormed (.compDest111 3 .regA Ctl.zero Cond.always) := by
  and_intros <;> decide

/-- Each check on `compJump001` refuses a term. -/
theorem test_illformed_compJump001 :
    ¬WellFormed (.compJump001 3 .mem Ctl.zero Dest.nowhere) ∧
    ¬WellFormed (.compJump001 3 .regA ⟨false, false, false, false, false, true⟩ Dest.nowhere) ∧
    ¬WellFormed (.compJump001 3 .regA Ctl.zero ⟨true, false, false⟩) := by
  and_intros <;> decide

/-- Each check on `compJump010` refuses a term. -/
theorem test_illformed_compJump010 :
    ¬WellFormed (.compJump010 3 .mem Ctl.zero Dest.nowhere) ∧
    ¬WellFormed (.compJump010 3 .regA ⟨false, false, false, false, false, true⟩ Dest.nowhere) ∧
    ¬WellFormed (.compJump010 3 .regA Ctl.zero ⟨true, false, false⟩) := by
  and_intros <;> decide

/-- Each check on `compJump011` refuses a term. -/
theorem test_illformed_compJump011 :
    ¬WellFormed (.compJump011 3 .mem Ctl.zero Dest.nowhere) ∧
    ¬WellFormed (.compJump011 3 .regA ⟨false, false, false, false, false, true⟩ Dest.nowhere) ∧
    ¬WellFormed (.compJump011 3 .regA Ctl.zero ⟨true, false, false⟩) := by
  and_intros <;> decide

/-- Each check on `compJump100` refuses a term. -/
theorem test_illformed_compJump100 :
    ¬WellFormed (.compJump100 3 .mem Ctl.zero Dest.nowhere) ∧
    ¬WellFormed (.compJump100 3 .regA ⟨false, false, false, false, false, true⟩ Dest.nowhere) ∧
    ¬WellFormed (.compJump100 3 .regA Ctl.zero ⟨true, false, false⟩) := by
  and_intros <;> decide

/-- Each check on `compJump101` refuses a term. -/
theorem test_illformed_compJump101 :
    ¬WellFormed (.compJump101 3 .mem Ctl.zero Dest.nowhere) ∧
    ¬WellFormed (.compJump101 3 .regA ⟨false, false, false, false, false, true⟩ Dest.nowhere) ∧
    ¬WellFormed (.compJump101 3 .regA Ctl.zero ⟨true, false, false⟩) := by
  and_intros <;> decide

/-- Each check on `compJump110` refuses a term. -/
theorem test_illformed_compJump110 :
    ¬WellFormed (.compJump110 3 .mem Ctl.zero Dest.nowhere) ∧
    ¬WellFormed (.compJump110 3 .regA ⟨false, false, false, false, false, true⟩ Dest.nowhere) ∧
    ¬WellFormed (.compJump110 3 .regA Ctl.zero ⟨true, false, false⟩) := by
  and_intros <;> decide

/-- Each check on `compJump111` refuses a term. -/
theorem test_illformed_compJump111 :
    ¬WellFormed (.compJump111 3 .mem Ctl.zero Dest.nowhere) ∧
    ¬WellFormed (.compJump111 3 .regA ⟨false, false, false, false, false, true⟩ Dest.nowhere) ∧
    ¬WellFormed (.compJump111 3 .regA Ctl.zero ⟨true, false, false⟩) := by
  and_intros <;> decide

/-! ## Decoding: every constructor from a word written out from R61 and R62 -/

/-- R61: type bit 0, then the literal: 0x0064 is 100, 0x0000 and 0x7FFF are the ends of the range (R123). -/
theorem test_decode_aload :
    decodeWord 0b0000000001100100 = .aload 100 ∧
    decodeWord 0b0000000000000000 = .aload 0 ∧
    decodeWord 0b0111111111111111 = .aload 0x7FFF ∧
    encode (.aload 100) = 0b0000000001100100 := by
  and_intros <;> decide

/-- R62, R63: the words of the control codes 000xxx with bits 14..13 = 11 and dD set (the words of V8; 000000 with a =
1, dD and JGT, log entry 1). -/
theorem test_decode_ctl_000xxx :
    decodeWord 0b1111000000010001 = .compCtl000000 3 .mem ⟨false, true, false⟩ ⟨false, false, true⟩ ∧
    decodeWord 0b1110000001010000 = .compCtl000001 3 .regA ⟨false, true, false⟩ Cond.never ∧
    decodeWord 0b1110000010010000 = .compCtl000010 3 .regA ⟨false, true, false⟩ Cond.never ∧
    decodeWord 0b1110000011010000 = .compCtl000011 3 .regA ⟨false, true, false⟩ Cond.never ∧
    decodeWord 0b1110000100010000 = .compCtl000100 3 .regA ⟨false, true, false⟩ Cond.never ∧
    decodeWord 0b1110000101010000 = .compCtl000101 3 .regA ⟨false, true, false⟩ Cond.never ∧
    decodeWord 0b1110000110010000 = .compCtl000110 3 .regA ⟨false, true, false⟩ Cond.never ∧
    decodeWord 0b1110000111010000 = .compCtl000111 3 .regA ⟨false, true, false⟩ Cond.never := by
  and_intros <;> decide

/-- R62, R63: the words of the control codes 001xxx with bits 14..13 = 11 and dD set (the words of V8). -/
theorem test_decode_ctl_001xxx :
    decodeWord 0b1110001000010000 = .compCtl001000 3 .regA ⟨false, true, false⟩ Cond.never ∧
    decodeWord 0b1110001001010000 = .compCtl001001 3 .regA ⟨false, true, false⟩ Cond.never ∧
    decodeWord 0b1110001010010000 = .compCtl001010 3 .regA ⟨false, true, false⟩ Cond.never ∧
    decodeWord 0b1110001011010000 = .compCtl001011 3 .regA ⟨false, true, false⟩ Cond.never ∧
    decodeWord 0b1110001100010000 = .compCtl001100 3 .regA ⟨false, true, false⟩ Cond.never ∧
    decodeWord 0b1110001101010000 = .compCtl001101 3 .regA ⟨false, true, false⟩ Cond.never ∧
    decodeWord 0b1110001110010000 = .compCtl001110 3 .regA ⟨false, true, false⟩ Cond.never ∧
    decodeWord 0b1110001111010000 = .compCtl001111 3 .regA ⟨false, true, false⟩ Cond.never := by
  and_intros <;> decide

/-- R62, R63: the words of the control codes 010xxx with bits 14..13 = 11 and dD set (the words of V8). -/
theorem test_decode_ctl_010xxx :
    decodeWord 0b1110010000010000 = .compCtl010000 3 .regA ⟨false, true, false⟩ Cond.never ∧
    decodeWord 0b1110010001010000 = .compCtl010001 3 .regA ⟨false, true, false⟩ Cond.never ∧
    decodeWord 0b1110010010010000 = .compCtl010010 3 .regA ⟨false, true, false⟩ Cond.never ∧
    decodeWord 0b1110010011010000 = .compCtl010011 3 .regA ⟨false, true, false⟩ Cond.never ∧
    decodeWord 0b1110010100010000 = .compCtl010100 3 .regA ⟨false, true, false⟩ Cond.never ∧
    decodeWord 0b1110010101010000 = .compCtl010101 3 .regA ⟨false, true, false⟩ Cond.never ∧
    decodeWord 0b1110010110010000 = .compCtl010110 3 .regA ⟨false, true, false⟩ Cond.never ∧
    decodeWord 0b1110010111010000 = .compCtl010111 3 .regA ⟨false, true, false⟩ Cond.never := by
  and_intros <;> decide

/-- R62, R63: the words of the control codes 011xxx with bits 14..13 = 11 and dD set (the words of V8). -/
theorem test_decode_ctl_011xxx :
    decodeWord 0b1110011000010000 = .compCtl011000 3 .regA ⟨false, true, false⟩ Cond.never ∧
    decodeWord 0b1110011001010000 = .compCtl011001 3 .regA ⟨false, true, false⟩ Cond.never ∧
    decodeWord 0b1110011010010000 = .compCtl011010 3 .regA ⟨false, true, false⟩ Cond.never ∧
    decodeWord 0b1110011011010000 = .compCtl011011 3 .regA ⟨false, true, false⟩ Cond.never ∧
    decodeWord 0b1110011100010000 = .compCtl011100 3 .regA ⟨false, true, false⟩ Cond.never ∧
    decodeWord 0b1110011101010000 = .compCtl011101 3 .regA ⟨false, true, false⟩ Cond.never ∧
    decodeWord 0b1110011110010000 = .compCtl011110 3 .regA ⟨false, true, false⟩ Cond.never ∧
    decodeWord 0b1110011111010000 = .compCtl011111 3 .regA ⟨false, true, false⟩ Cond.never := by
  and_intros <;> decide

/-- R62, R63: the words of the control codes 100xxx with bits 14..13 = 11 and dD set (the words of V8). -/
theorem test_decode_ctl_100xxx :
    decodeWord 0b1110100000010000 = .compCtl100000 3 .regA ⟨false, true, false⟩ Cond.never ∧
    decodeWord 0b1110100001010000 = .compCtl100001 3 .regA ⟨false, true, false⟩ Cond.never ∧
    decodeWord 0b1110100010010000 = .compCtl100010 3 .regA ⟨false, true, false⟩ Cond.never ∧
    decodeWord 0b1110100011010000 = .compCtl100011 3 .regA ⟨false, true, false⟩ Cond.never ∧
    decodeWord 0b1110100100010000 = .compCtl100100 3 .regA ⟨false, true, false⟩ Cond.never ∧
    decodeWord 0b1110100101010000 = .compCtl100101 3 .regA ⟨false, true, false⟩ Cond.never ∧
    decodeWord 0b1110100110010000 = .compCtl100110 3 .regA ⟨false, true, false⟩ Cond.never ∧
    decodeWord 0b1110100111010000 = .compCtl100111 3 .regA ⟨false, true, false⟩ Cond.never := by
  and_intros <;> decide

/-- R62, R63: the words of the control codes 101xxx with bits 14..13 = 11 and dD set (the words of V8). -/
theorem test_decode_ctl_101xxx :
    decodeWord 0b1110101000010000 = .compCtl101000 3 .regA ⟨false, true, false⟩ Cond.never ∧
    decodeWord 0b1110101001010000 = .compCtl101001 3 .regA ⟨false, true, false⟩ Cond.never ∧
    decodeWord 0b1110101010010000 = .compCtl101010 3 .regA ⟨false, true, false⟩ Cond.never ∧
    decodeWord 0b1110101011010000 = .compCtl101011 3 .regA ⟨false, true, false⟩ Cond.never ∧
    decodeWord 0b1110101100010000 = .compCtl101100 3 .regA ⟨false, true, false⟩ Cond.never ∧
    decodeWord 0b1110101101010000 = .compCtl101101 3 .regA ⟨false, true, false⟩ Cond.never ∧
    decodeWord 0b1110101110010000 = .compCtl101110 3 .regA ⟨false, true, false⟩ Cond.never ∧
    decodeWord 0b1110101111010000 = .compCtl101111 3 .regA ⟨false, true, false⟩ Cond.never := by
  and_intros <;> decide

/-- R62, R63: the words of the control codes 110xxx with bits 14..13 = 11 and dD set (the words of V8). -/
theorem test_decode_ctl_110xxx :
    decodeWord 0b1110110000010000 = .compCtl110000 3 .regA ⟨false, true, false⟩ Cond.never ∧
    decodeWord 0b1110110001010000 = .compCtl110001 3 .regA ⟨false, true, false⟩ Cond.never ∧
    decodeWord 0b1110110010010000 = .compCtl110010 3 .regA ⟨false, true, false⟩ Cond.never ∧
    decodeWord 0b1110110011010000 = .compCtl110011 3 .regA ⟨false, true, false⟩ Cond.never ∧
    decodeWord 0b1110110100010000 = .compCtl110100 3 .regA ⟨false, true, false⟩ Cond.never ∧
    decodeWord 0b1110110101010000 = .compCtl110101 3 .regA ⟨false, true, false⟩ Cond.never ∧
    decodeWord 0b1110110110010000 = .compCtl110110 3 .regA ⟨false, true, false⟩ Cond.never ∧
    decodeWord 0b1110110111010000 = .compCtl110111 3 .regA ⟨false, true, false⟩ Cond.never := by
  and_intros <;> decide

/-- R62, R63: the words of the control codes 111xxx with bits 14..13 = 11 and dD set (the words of V8). -/
theorem test_decode_ctl_111xxx :
    decodeWord 0b1110111000010000 = .compCtl111000 3 .regA ⟨false, true, false⟩ Cond.never ∧
    decodeWord 0b1110111001010000 = .compCtl111001 3 .regA ⟨false, true, false⟩ Cond.never ∧
    decodeWord 0b1110111010010000 = .compCtl111010 3 .regA ⟨false, true, false⟩ Cond.never ∧
    decodeWord 0b1110111011010000 = .compCtl111011 3 .regA ⟨false, true, false⟩ Cond.never ∧
    decodeWord 0b1110111100010000 = .compCtl111100 3 .regA ⟨false, true, false⟩ Cond.never ∧
    decodeWord 0b1110111101010000 = .compCtl111101 3 .regA ⟨false, true, false⟩ Cond.never ∧
    decodeWord 0b1110111110010000 = .compCtl111110 3 .regA ⟨false, true, false⟩ Cond.never ∧
    decodeWord 0b1110111111010000 = .compCtl111111 3 .regA ⟨false, true, false⟩ Cond.never := by
  and_intros <;> decide

/-- R62, R66: control code 000000, bit 12, and the other fields that log entry 1 names these rows by. -/
theorem test_decode_comp_and_operand_rows :
    decodeWord 0b1110000000000000 = .comp 3 .regA Ctl.zero Dest.nowhere Cond.never ∧
    decodeWord 0b1110000000010001 = .compA0 3 Ctl.zero ⟨false, true, false⟩ ⟨false, false, true⟩ ∧
    decodeWord 0b1111000000000000 = .compA1 3 Ctl.zero Dest.nowhere Cond.never := by
  and_intros <;> decide

/-- R64: bits 5, 4, 3 are dA, dD, dM. -/
theorem test_decode_dest_rows :
    decodeWord 0b1111000000000001 = .compDest000 3 .mem Ctl.zero ⟨false, false, true⟩ ∧
    decodeWord 0b1110000000001000 = .compDest001 3 .regA Ctl.zero Cond.never ∧
    decodeWord 0b1110000000010000 = .compDest010 3 .regA Ctl.zero Cond.never ∧
    decodeWord 0b1110000000011000 = .compDest011 3 .regA Ctl.zero Cond.never ∧
    decodeWord 0b1110000000100000 = .compDest100 3 .regA Ctl.zero Cond.never ∧
    decodeWord 0b1110000000101000 = .compDest101 3 .regA Ctl.zero Cond.never ∧
    decodeWord 0b1110000000110000 = .compDest110 3 .regA Ctl.zero Cond.never ∧
    decodeWord 0b1110000000111000 = .compDest111 3 .regA Ctl.zero Cond.never := by
  and_intros <;> decide

/-- R65: bits 2, 1, 0 are j2, j1, j0. -/
theorem test_decode_jump_rows :
    decodeWord 0b1111000000001000 = .compJump000 3 .mem Ctl.zero ⟨false, false, true⟩ ∧
    decodeWord 0b1110000000000001 = .compJump001 3 .regA Ctl.zero Dest.nowhere ∧
    decodeWord 0b1110000000000010 = .compJump010 3 .regA Ctl.zero Dest.nowhere ∧
    decodeWord 0b1110000000000011 = .compJump011 3 .regA Ctl.zero Dest.nowhere ∧
    decodeWord 0b1110000000000100 = .compJump100 3 .regA Ctl.zero Dest.nowhere ∧
    decodeWord 0b1110000000000101 = .compJump101 3 .regA Ctl.zero Dest.nowhere ∧
    decodeWord 0b1110000000000110 = .compJump110 3 .regA Ctl.zero Dest.nowhere ∧
    decodeWord 0b1110000000000111 = .compJump111 3 .regA Ctl.zero Dest.nowhere := by
  and_intros <;> decide

/-- R62 to R67: the words of V4, V5 and V7 from their fields, whichever row names them. -/
theorem test_encode_rows :
    encode (.compDest001 3 .regA ⟨false, true, true, true, true, true⟩ Cond.never) = 0xE7C8 ∧
    encode (.compJump101 3 .regA ⟨false, false, true, true, false, false⟩ Dest.nowhere) = 0xE305 ∧
    encode (.compA1 3 ⟨false, true, false, false, true, true⟩ ⟨false, true, false⟩ Cond.never) = 0xF4D0 ∧
    encode (.compCtl001100 1 .regA ⟨false, true, false⟩ Cond.never) = 0xA310 ∧
    encode (.compCtl001100 2 .regA ⟨false, true, false⟩ Cond.never) = 0xC310 := by
  and_intros <;> decide

/-- Log entry 2: the low byte first; a lone byte is refused by name. -/
theorem test_decode_bytes :
    decodeBytes [0x87, 0xEA, 0x01] = .ok (.compCtl101010 3 .regA Dest.nowhere Cond.always, [0x01]) ∧
    decodeBytes [0x87] = .error .truncated ∧
    decodeBytes [] = .error .truncated := ⟨rfl, rfl, rfl⟩

/-- The table numbers bit 0 as the least significant (R8). -/
theorem test_decode_table_word : decodeTableWord 16 0xEA87 = some (.compCtl101010 3 .regA Dest.nowhere Cond.always) :=
    by decide

/-! ## Single ticks: spec/95_test_vectors.md -/

/-- V2: address-loads, with the wrap of PC, a literal with all low bits set, and reset. -/
theorem test_aload_ticks :
    tickOf 0x0064 (machine 0x0007 0x0009 0x0014 0x1111 false) = some (0x0064, 0x0009, 0x0015, 0x1111) ∧
    tickOf 0x0000 (machine 0xFFFF 0xFFFF 0x0000 0x1111 false) = some (0x0000, 0xFFFF, 0x0001, 0x1111) ∧
    tickOf 0x7FFF (machine 0x0000 0x0000 0x7FFE 0x1111 false) = some (0x7FFF, 0x0000, 0x7FFF, 0x1111) ∧
    tickOf 0x7FFF (machine 0x0000 0x0000 0x7FFF 0x1111 false) = some (0x7FFF, 0x0000, 0x0000, 0x1111) ∧
    tickOf 0x1FFF (machine 0x0005 0x0006 0x0003 0x00F0 false) = some (0x1FFF, 0x0006, 0x0004, 0x00F0) ∧
    tickOf 0x003F (machine 0x0005 0x0006 0x0003 0x00F0 false) = some (0x003F, 0x0006, 0x0004, 0x00F0) ∧
    tickOf 0x0005 (machine 0x0009 0x0001 0x012C 0x0000 true) = some (0x0005, 0x0001, 0x0000, 0x0000) ∧
    tickOf 0x4000 (machine 0x8000 0x8000 0x0010 0x0000 false) = some (0x4000, 0x8000, 0x0011, 0x0000) := by
  and_intros <;> decide

/-- V3: the register and the memory operand, with bit 15 of A set in two rows. -/
theorem test_operand_select_ticks :
    tickOf 0xE090 (machine 0x0003 0x0005 0x0001 0x0064 false) = some (0x0003, 0x0008, 0x0002, 0x0064) ∧
    tickOf 0xF090 (machine 0x0003 0x0005 0x0001 0x0064 false) = some (0x0003, 0x0069, 0x0002, 0x0064) ∧
    tickOf 0xEC10 (machine 0x8003 0x0005 0x0001 0x0064 false) = some (0x8003, 0x8003, 0x0002, 0x0064) ∧
    tickOf 0xFC10 (machine 0x8003 0x0005 0x0001 0x0064 false) = some (0x8003, 0x0064, 0x0002, 0x0064) ∧
    tickOf 0xE310 (machine 0x0003 0x0005 0x0001 0x0064 false) = some (0x0003, 0x0005, 0x0002, 0x0064) ∧
    tickOf 0xF310 (machine 0x0003 0x0005 0x0001 0x0064 false) = some (0x0003, 0x0005, 0x0002, 0x0064) ∧
    tickOf 0xF4D0 (machine 0x0010 0x0005 0x0001 0x0007 false) = some (0x0010, 0xFFFE, 0x0002, 0x0007) ∧
    tickOf 0xF1D0 (machine 0x0010 0x0005 0x0001 0x0007 false) = some (0x0010, 0x0002, 0x0002, 0x0007) := by
  and_intros <;> decide

/-- V4: the eight destination fields. -/
theorem test_destination_ticks :
    tickOf 0xE7C0 (machine 0x000C 0x0029 0x0008 0x0063 false) = some (0x000C, 0x0029, 0x0009, 0x0063) ∧
    tickOf 0xE7C8 (machine 0x000C 0x0029 0x0008 0x0063 false) = some (0x000C, 0x0029, 0x0009, 0x002A) ∧
    tickOf 0xE7D0 (machine 0x000C 0x0029 0x0008 0x0063 false) = some (0x000C, 0x002A, 0x0009, 0x0063) ∧
    tickOf 0xE7D8 (machine 0x000C 0x0029 0x0008 0x0063 false) = some (0x000C, 0x002A, 0x0009, 0x002A) ∧
    tickOf 0xE7E0 (machine 0x000C 0x0029 0x0008 0x0063 false) = some (0x002A, 0x0029, 0x0009, 0x0063) ∧
    tickOf 0xE7E8 (machine 0x000C 0x0029 0x0008 0x0063 false) = some (0x002A, 0x0029, 0x0009, 0x002A) ∧
    tickOf 0xE7F0 (machine 0x000C 0x0029 0x0008 0x0063 false) = some (0x002A, 0x002A, 0x0009, 0x0063) ∧
    tickOf 0xE7F8 (machine 0x000C 0x0029 0x0008 0x0063 false) = some (0x002A, 0x002A, 0x0009, 0x002A) := by
  and_intros <;> decide

/-- V6: reset over a jump, over a store, over an address-load, held and released. -/
theorem test_reset_ticks :
    tickOf 0xEA87 (machine 0x0064 0x0000 0x0007 0x0000 true) = some (0x0064, 0x0000, 0x0000, 0x0000) ∧
    tickOf 0xE7F8 (machine 0x000C 0x0029 0x0100 0x0000 true) = some (0x002A, 0x002A, 0x0000, 0x002A) ∧
    tickOf 0x0005 (machine 0x0009 0x0001 0x012C 0x0000 true) = some (0x0005, 0x0001, 0x0000, 0x0000) ∧
    tickOf 0xEA80 (machine 0x1234 0x5678 0x7FFF 0x0000 true) = some (0x1234, 0x5678, 0x0000, 0x0000) ∧
    tickOf 0xEA80 (machine 0x1234 0x5678 0x0000 0x0000 true) = some (0x1234, 0x5678, 0x0000, 0x0000) ∧
    tickOf 0xEA80 (machine 0x1234 0x5678 0x0000 0x0000 false) = some (0x1234, 0x5678, 0x0001, 0x0000) := by
  and_intros <;> decide

/-- V7: bits 14..13 do not matter. -/
theorem test_ignored_bits_ticks :
    tickOf 0x8310 (machine 0x0003 0x0005 0x0001 0x0064 false) = some (0x0003, 0x0005, 0x0002, 0x0064) ∧
    tickOf 0xA310 (machine 0x0003 0x0005 0x0001 0x0064 false) = some (0x0003, 0x0005, 0x0002, 0x0064) ∧
    tickOf 0xC310 (machine 0x0003 0x0005 0x0001 0x0064 false) = some (0x0003, 0x0005, 0x0002, 0x0064) ∧
    tickOf 0xE310 (machine 0x0003 0x0005 0x0001 0x0064 false) = some (0x0003, 0x0005, 0x0002, 0x0064) := by
  and_intros <;> decide

/-- V8: the control codes 000xxx on x = D = 0x1234 and y = A = 0x00FF. -/
theorem test_ctl_000xxx_ticks :
    tickOf 0xE010 (machine 0x00FF 0x1234 0 0 false) = some (0x00FF, 0x0034, 1, 0) ∧
    tickOf 0xE050 (machine 0x00FF 0x1234 0 0 false) = some (0x00FF, 0xFFCB, 1, 0) ∧
    tickOf 0xE090 (machine 0x00FF 0x1234 0 0 false) = some (0x00FF, 0x1333, 1, 0) ∧
    tickOf 0xE0D0 (machine 0x00FF 0x1234 0 0 false) = some (0x00FF, 0xECCC, 1, 0) ∧
    tickOf 0xE110 (machine 0x00FF 0x1234 0 0 false) = some (0x00FF, 0x1200, 1, 0) ∧
    tickOf 0xE150 (machine 0x00FF 0x1234 0 0 false) = some (0x00FF, 0xEDFF, 1, 0) ∧
    tickOf 0xE190 (machine 0x00FF 0x1234 0 0 false) = some (0x00FF, 0x1134, 1, 0) ∧
    tickOf 0xE1D0 (machine 0x00FF 0x1234 0 0 false) = some (0x00FF, 0xEECB, 1, 0) := by
  and_intros <;> decide

/-- V8: result and flags of the control codes 000xxx. -/
theorem test_ctl_000xxx_alu :
    refAlu 0x1234 0x00FF ⟨false, false, false, false, false, false⟩ = ⟨0x0034, false, false⟩ ∧
    refAlu 0x1234 0x00FF ⟨false, false, false, false, false, true⟩ = ⟨0xFFCB, false, true⟩ ∧
    refAlu 0x1234 0x00FF ⟨false, false, false, false, true, false⟩ = ⟨0x1333, false, false⟩ ∧
    refAlu 0x1234 0x00FF ⟨false, false, false, false, true, true⟩ = ⟨0xECCC, false, true⟩ ∧
    refAlu 0x1234 0x00FF ⟨false, false, false, true, false, false⟩ = ⟨0x1200, false, false⟩ ∧
    refAlu 0x1234 0x00FF ⟨false, false, false, true, false, true⟩ = ⟨0xEDFF, false, true⟩ ∧
    refAlu 0x1234 0x00FF ⟨false, false, false, true, true, false⟩ = ⟨0x1134, false, false⟩ ∧
    refAlu 0x1234 0x00FF ⟨false, false, false, true, true, true⟩ = ⟨0xEECB, false, true⟩ := by
  and_intros <;> decide

/-- V8: the control codes 001xxx on x = D = 0x1234 and y = A = 0x00FF. -/
theorem test_ctl_001xxx_ticks :
    tickOf 0xE210 (machine 0x00FF 0x1234 0 0 false) = some (0x00FF, 0x0000, 1, 0) ∧
    tickOf 0xE250 (machine 0x00FF 0x1234 0 0 false) = some (0x00FF, 0xFFFF, 1, 0) ∧
    tickOf 0xE290 (machine 0x00FF 0x1234 0 0 false) = some (0x00FF, 0x1234, 1, 0) ∧
    tickOf 0xE2D0 (machine 0x00FF 0x1234 0 0 false) = some (0x00FF, 0xEDCB, 1, 0) ∧
    tickOf 0xE310 (machine 0x00FF 0x1234 0 0 false) = some (0x00FF, 0x1234, 1, 0) ∧
    tickOf 0xE350 (machine 0x00FF 0x1234 0 0 false) = some (0x00FF, 0xEDCB, 1, 0) ∧
    tickOf 0xE390 (machine 0x00FF 0x1234 0 0 false) = some (0x00FF, 0x1233, 1, 0) ∧
    tickOf 0xE3D0 (machine 0x00FF 0x1234 0 0 false) = some (0x00FF, 0xEDCC, 1, 0) := by
  and_intros <;> decide

/-- V8: result and flags of the control codes 001xxx. -/
theorem test_ctl_001xxx_alu :
    refAlu 0x1234 0x00FF ⟨false, false, true, false, false, false⟩ = ⟨0x0000, true, false⟩ ∧
    refAlu 0x1234 0x00FF ⟨false, false, true, false, false, true⟩ = ⟨0xFFFF, false, true⟩ ∧
    refAlu 0x1234 0x00FF ⟨false, false, true, false, true, false⟩ = ⟨0x1234, false, false⟩ ∧
    refAlu 0x1234 0x00FF ⟨false, false, true, false, true, true⟩ = ⟨0xEDCB, false, true⟩ ∧
    refAlu 0x1234 0x00FF ⟨false, false, true, true, false, false⟩ = ⟨0x1234, false, false⟩ ∧
    refAlu 0x1234 0x00FF ⟨false, false, true, true, false, true⟩ = ⟨0xEDCB, false, true⟩ ∧
    refAlu 0x1234 0x00FF ⟨false, false, true, true, true, false⟩ = ⟨0x1233, false, false⟩ ∧
    refAlu 0x1234 0x00FF ⟨false, false, true, true, true, true⟩ = ⟨0xEDCC, false, true⟩ := by
  and_intros <;> decide

/-- V8: the control codes 010xxx on x = D = 0x1234 and y = A = 0x00FF. -/
theorem test_ctl_010xxx_ticks :
    tickOf 0xE410 (machine 0x00FF 0x1234 0 0 false) = some (0x00FF, 0x00CB, 1, 0) ∧
    tickOf 0xE450 (machine 0x00FF 0x1234 0 0 false) = some (0x00FF, 0xFF34, 1, 0) ∧
    tickOf 0xE490 (machine 0x00FF 0x1234 0 0 false) = some (0x00FF, 0xEECA, 1, 0) ∧
    tickOf 0xE4D0 (machine 0x00FF 0x1234 0 0 false) = some (0x00FF, 0x1135, 1, 0) ∧
    tickOf 0xE510 (machine 0x00FF 0x1234 0 0 false) = some (0x00FF, 0xED00, 1, 0) ∧
    tickOf 0xE550 (machine 0x00FF 0x1234 0 0 false) = some (0x00FF, 0x12FF, 1, 0) ∧
    tickOf 0xE590 (machine 0x00FF 0x1234 0 0 false) = some (0x00FF, 0xECCB, 1, 0) ∧
    tickOf 0xE5D0 (machine 0x00FF 0x1234 0 0 false) = some (0x00FF, 0x1334, 1, 0) := by
  and_intros <;> decide

/-- V8: result and flags of the control codes 010xxx. -/
theorem test_ctl_010xxx_alu :
    refAlu 0x1234 0x00FF ⟨false, true, false, false, false, false⟩ = ⟨0x00CB, false, false⟩ ∧
    refAlu 0x1234 0x00FF ⟨false, true, false, false, false, true⟩ = ⟨0xFF34, false, true⟩ ∧
    refAlu 0x1234 0x00FF ⟨false, true, false, false, true, false⟩ = ⟨0xEECA, false, true⟩ ∧
    refAlu 0x1234 0x00FF ⟨false, true, false, false, true, true⟩ = ⟨0x1135, false, false⟩ ∧
    refAlu 0x1234 0x00FF ⟨false, true, false, true, false, false⟩ = ⟨0xED00, false, true⟩ ∧
    refAlu 0x1234 0x00FF ⟨false, true, false, true, false, true⟩ = ⟨0x12FF, false, false⟩ ∧
    refAlu 0x1234 0x00FF ⟨false, true, false, true, true, false⟩ = ⟨0xECCB, false, true⟩ ∧
    refAlu 0x1234 0x00FF ⟨false, true, false, true, true, true⟩ = ⟨0x1334, false, false⟩ := by
  and_intros <;> decide

/-- V8: the control codes 011xxx on x = D = 0x1234 and y = A = 0x00FF. -/
theorem test_ctl_011xxx_ticks :
    tickOf 0xE610 (machine 0x00FF 0x1234 0 0 false) = some (0x00FF, 0x0000, 1, 0) ∧
    tickOf 0xE650 (machine 0x00FF 0x1234 0 0 false) = some (0x00FF, 0xFFFF, 1, 0) ∧
    tickOf 0xE690 (machine 0x00FF 0x1234 0 0 false) = some (0x00FF, 0xEDCB, 1, 0) ∧
    tickOf 0xE6D0 (machine 0x00FF 0x1234 0 0 false) = some (0x00FF, 0x1234, 1, 0) ∧
    tickOf 0xE710 (machine 0x00FF 0x1234 0 0 false) = some (0x00FF, 0xEDCB, 1, 0) ∧
    tickOf 0xE750 (machine 0x00FF 0x1234 0 0 false) = some (0x00FF, 0x1234, 1, 0) ∧
    tickOf 0xE790 (machine 0x00FF 0x1234 0 0 false) = some (0x00FF, 0xEDCA, 1, 0) ∧
    tickOf 0xE7D0 (machine 0x00FF 0x1234 0 0 false) = some (0x00FF, 0x1235, 1, 0) := by
  and_intros <;> decide

/-- V8: result and flags of the control codes 011xxx. -/
theorem test_ctl_011xxx_alu :
    refAlu 0x1234 0x00FF ⟨false, true, true, false, false, false⟩ = ⟨0x0000, true, false⟩ ∧
    refAlu 0x1234 0x00FF ⟨false, true, true, false, false, true⟩ = ⟨0xFFFF, false, true⟩ ∧
    refAlu 0x1234 0x00FF ⟨false, true, true, false, true, false⟩ = ⟨0xEDCB, false, true⟩ ∧
    refAlu 0x1234 0x00FF ⟨false, true, true, false, true, true⟩ = ⟨0x1234, false, false⟩ ∧
    refAlu 0x1234 0x00FF ⟨false, true, true, true, false, false⟩ = ⟨0xEDCB, false, true⟩ ∧
    refAlu 0x1234 0x00FF ⟨false, true, true, true, false, true⟩ = ⟨0x1234, false, false⟩ ∧
    refAlu 0x1234 0x00FF ⟨false, true, true, true, true, false⟩ = ⟨0xEDCA, false, true⟩ ∧
    refAlu 0x1234 0x00FF ⟨false, true, true, true, true, true⟩ = ⟨0x1235, false, false⟩ := by
  and_intros <;> decide

/-- V8: the control codes 100xxx on x = D = 0x1234 and y = A = 0x00FF. -/
theorem test_ctl_100xxx_ticks :
    tickOf 0xE810 (machine 0x00FF 0x1234 0 0 false) = some (0x00FF, 0x0000, 1, 0) ∧
    tickOf 0xE850 (machine 0x00FF 0x1234 0 0 false) = some (0x00FF, 0xFFFF, 1, 0) ∧
    tickOf 0xE890 (machine 0x00FF 0x1234 0 0 false) = some (0x00FF, 0x00FF, 1, 0) ∧
    tickOf 0xE8D0 (machine 0x00FF 0x1234 0 0 false) = some (0x00FF, 0xFF00, 1, 0) ∧
    tickOf 0xE910 (machine 0x00FF 0x1234 0 0 false) = some (0x00FF, 0x0000, 1, 0) ∧
    tickOf 0xE950 (machine 0x00FF 0x1234 0 0 false) = some (0x00FF, 0xFFFF, 1, 0) ∧
    tickOf 0xE990 (machine 0x00FF 0x1234 0 0 false) = some (0x00FF, 0xFF00, 1, 0) ∧
    tickOf 0xE9D0 (machine 0x00FF 0x1234 0 0 false) = some (0x00FF, 0x00FF, 1, 0) := by
  and_intros <;> decide

/-- V8: result and flags of the control codes 100xxx. -/
theorem test_ctl_100xxx_alu :
    refAlu 0x1234 0x00FF ⟨true, false, false, false, false, false⟩ = ⟨0x0000, true, false⟩ ∧
    refAlu 0x1234 0x00FF ⟨true, false, false, false, false, true⟩ = ⟨0xFFFF, false, true⟩ ∧
    refAlu 0x1234 0x00FF ⟨true, false, false, false, true, false⟩ = ⟨0x00FF, false, false⟩ ∧
    refAlu 0x1234 0x00FF ⟨true, false, false, false, true, true⟩ = ⟨0xFF00, false, true⟩ ∧
    refAlu 0x1234 0x00FF ⟨true, false, false, true, false, false⟩ = ⟨0x0000, true, false⟩ ∧
    refAlu 0x1234 0x00FF ⟨true, false, false, true, false, true⟩ = ⟨0xFFFF, false, true⟩ ∧
    refAlu 0x1234 0x00FF ⟨true, false, false, true, true, false⟩ = ⟨0xFF00, false, true⟩ ∧
    refAlu 0x1234 0x00FF ⟨true, false, false, true, true, true⟩ = ⟨0x00FF, false, false⟩ := by
  and_intros <;> decide

/-- V8: the control codes 101xxx on x = D = 0x1234 and y = A = 0x00FF. -/
theorem test_ctl_101xxx_ticks :
    tickOf 0xEA10 (machine 0x00FF 0x1234 0 0 false) = some (0x00FF, 0x0000, 1, 0) ∧
    tickOf 0xEA50 (machine 0x00FF 0x1234 0 0 false) = some (0x00FF, 0xFFFF, 1, 0) ∧
    tickOf 0xEA90 (machine 0x00FF 0x1234 0 0 false) = some (0x00FF, 0x0000, 1, 0) ∧
    tickOf 0xEAD0 (machine 0x00FF 0x1234 0 0 false) = some (0x00FF, 0xFFFF, 1, 0) ∧
    tickOf 0xEB10 (machine 0x00FF 0x1234 0 0 false) = some (0x00FF, 0x0000, 1, 0) ∧
    tickOf 0xEB50 (machine 0x00FF 0x1234 0 0 false) = some (0x00FF, 0xFFFF, 1, 0) ∧
    tickOf 0xEB90 (machine 0x00FF 0x1234 0 0 false) = some (0x00FF, 0xFFFF, 1, 0) ∧
    tickOf 0xEBD0 (machine 0x00FF 0x1234 0 0 false) = some (0x00FF, 0x0000, 1, 0) := by
  and_intros <;> decide

/-- V8: result and flags of the control codes 101xxx. -/
theorem test_ctl_101xxx_alu :
    refAlu 0x1234 0x00FF ⟨true, false, true, false, false, false⟩ = ⟨0x0000, true, false⟩ ∧
    refAlu 0x1234 0x00FF ⟨true, false, true, false, false, true⟩ = ⟨0xFFFF, false, true⟩ ∧
    refAlu 0x1234 0x00FF ⟨true, false, true, false, true, false⟩ = ⟨0x0000, true, false⟩ ∧
    refAlu 0x1234 0x00FF ⟨true, false, true, false, true, true⟩ = ⟨0xFFFF, false, true⟩ ∧
    refAlu 0x1234 0x00FF ⟨true, false, true, true, false, false⟩ = ⟨0x0000, true, false⟩ ∧
    refAlu 0x1234 0x00FF ⟨true, false, true, true, false, true⟩ = ⟨0xFFFF, false, true⟩ ∧
    refAlu 0x1234 0x00FF ⟨true, false, true, true, true, false⟩ = ⟨0xFFFF, false, true⟩ ∧
    refAlu 0x1234 0x00FF ⟨true, false, true, true, true, true⟩ = ⟨0x0000, true, false⟩ := by
  and_intros <;> decide

/-- V8: the control codes 110xxx on x = D = 0x1234 and y = A = 0x00FF. -/
theorem test_ctl_110xxx_ticks :
    tickOf 0xEC10 (machine 0x00FF 0x1234 0 0 false) = some (0x00FF, 0x00FF, 1, 0) ∧
    tickOf 0xEC50 (machine 0x00FF 0x1234 0 0 false) = some (0x00FF, 0xFF00, 1, 0) ∧
    tickOf 0xEC90 (machine 0x00FF 0x1234 0 0 false) = some (0x00FF, 0x00FE, 1, 0) ∧
    tickOf 0xECD0 (machine 0x00FF 0x1234 0 0 false) = some (0x00FF, 0xFF01, 1, 0) ∧
    tickOf 0xED10 (machine 0x00FF 0x1234 0 0 false) = some (0x00FF, 0xFF00, 1, 0) ∧
    tickOf 0xED50 (machine 0x00FF 0x1234 0 0 false) = some (0x00FF, 0x00FF, 1, 0) ∧
    tickOf 0xED90 (machine 0x00FF 0x1234 0 0 false) = some (0x00FF, 0xFEFF, 1, 0) ∧
    tickOf 0xEDD0 (machine 0x00FF 0x1234 0 0 false) = some (0x00FF, 0x0100, 1, 0) := by
  and_intros <;> decide

/-- V8: result and flags of the control codes 110xxx. -/
theorem test_ctl_110xxx_alu :
    refAlu 0x1234 0x00FF ⟨true, true, false, false, false, false⟩ = ⟨0x00FF, false, false⟩ ∧
    refAlu 0x1234 0x00FF ⟨true, true, false, false, false, true⟩ = ⟨0xFF00, false, true⟩ ∧
    refAlu 0x1234 0x00FF ⟨true, true, false, false, true, false⟩ = ⟨0x00FE, false, false⟩ ∧
    refAlu 0x1234 0x00FF ⟨true, true, false, false, true, true⟩ = ⟨0xFF01, false, true⟩ ∧
    refAlu 0x1234 0x00FF ⟨true, true, false, true, false, false⟩ = ⟨0xFF00, false, true⟩ ∧
    refAlu 0x1234 0x00FF ⟨true, true, false, true, false, true⟩ = ⟨0x00FF, false, false⟩ ∧
    refAlu 0x1234 0x00FF ⟨true, true, false, true, true, false⟩ = ⟨0xFEFF, false, true⟩ ∧
    refAlu 0x1234 0x00FF ⟨true, true, false, true, true, true⟩ = ⟨0x0100, false, false⟩ := by
  and_intros <;> decide

/-- V8: the control codes 111xxx on x = D = 0x1234 and y = A = 0x00FF. -/
theorem test_ctl_111xxx_ticks :
    tickOf 0xEE10 (machine 0x00FF 0x1234 0 0 false) = some (0x00FF, 0x0000, 1, 0) ∧
    tickOf 0xEE50 (machine 0x00FF 0x1234 0 0 false) = some (0x00FF, 0xFFFF, 1, 0) ∧
    tickOf 0xEE90 (machine 0x00FF 0x1234 0 0 false) = some (0x00FF, 0xFFFF, 1, 0) ∧
    tickOf 0xEED0 (machine 0x00FF 0x1234 0 0 false) = some (0x00FF, 0x0000, 1, 0) ∧
    tickOf 0xEF10 (machine 0x00FF 0x1234 0 0 false) = some (0x00FF, 0xFFFF, 1, 0) ∧
    tickOf 0xEF50 (machine 0x00FF 0x1234 0 0 false) = some (0x00FF, 0x0000, 1, 0) ∧
    tickOf 0xEF90 (machine 0x00FF 0x1234 0 0 false) = some (0x00FF, 0xFFFE, 1, 0) ∧
    tickOf 0xEFD0 (machine 0x00FF 0x1234 0 0 false) = some (0x00FF, 0x0001, 1, 0) := by
  and_intros <;> decide

/-- V8: result and flags of the control codes 111xxx. -/
theorem test_ctl_111xxx_alu :
    refAlu 0x1234 0x00FF ⟨true, true, true, false, false, false⟩ = ⟨0x0000, true, false⟩ ∧
    refAlu 0x1234 0x00FF ⟨true, true, true, false, false, true⟩ = ⟨0xFFFF, false, true⟩ ∧
    refAlu 0x1234 0x00FF ⟨true, true, true, false, true, false⟩ = ⟨0xFFFF, false, true⟩ ∧
    refAlu 0x1234 0x00FF ⟨true, true, true, false, true, true⟩ = ⟨0x0000, true, false⟩ ∧
    refAlu 0x1234 0x00FF ⟨true, true, true, true, false, false⟩ = ⟨0xFFFF, false, true⟩ ∧
    refAlu 0x1234 0x00FF ⟨true, true, true, true, false, true⟩ = ⟨0x0000, true, false⟩ ∧
    refAlu 0x1234 0x00FF ⟨true, true, true, true, true, false⟩ = ⟨0xFFFE, false, true⟩ ∧
    refAlu 0x1234 0x00FF ⟨true, true, true, true, true, true⟩ = ⟨0x0001, false, false⟩ := by
  and_intros <;> decide

/-- V8, the arithmetic corner cases. -/
theorem test_alu_corners :
    refAlu 0x7FFF 0x0001 ⟨false, false, false, false, true, false⟩ = ⟨0x8000, false, true⟩ ∧
    refAlu 0xFFFF 0x0001 ⟨false, false, false, false, true, false⟩ = ⟨0x0000, true, false⟩ ∧
    refAlu 0x8000 0x8000 ⟨false, false, false, false, true, false⟩ = ⟨0x0000, true, false⟩ ∧
    refAlu 0x0000 0x0001 ⟨false, true, false, false, true, true⟩ = ⟨0xFFFF, false, true⟩ ∧
    refAlu 0x8000 0x0001 ⟨false, true, false, false, true, true⟩ = ⟨0x7FFF, false, false⟩ ∧
    refAlu 0x0005 0x0005 ⟨false, true, false, false, true, true⟩ = ⟨0x0000, true, false⟩ ∧
    refAlu 0x0001 0x0000 ⟨false, false, false, true, true, true⟩ = ⟨0xFFFF, false, true⟩ ∧
    refAlu 0x8000 0x0000 ⟨false, false, true, true, true, true⟩ = ⟨0x8000, false, true⟩ ∧
    refAlu 0x0000 0x0000 ⟨false, false, true, true, true, true⟩ = ⟨0x0000, true, false⟩ ∧
    refAlu 0xFFFF 0x0000 ⟨false, true, true, true, true, true⟩ = ⟨0x0000, true, false⟩ ∧
    refAlu 0x7FFF 0x0000 ⟨false, true, true, true, true, true⟩ = ⟨0x8000, false, true⟩ ∧
    refAlu 0x0000 0x0000 ⟨false, false, true, true, true, false⟩ = ⟨0xFFFF, false, true⟩ ∧
    refAlu 0x8000 0x0000 ⟨false, false, true, true, true, false⟩ = ⟨0x7FFF, false, false⟩ ∧
    refAlu 0x0000 0xFFFF ⟨true, true, false, true, true, true⟩ = ⟨0x0000, true, false⟩ ∧
    refAlu 0x0000 0x0000 ⟨true, true, false, false, true, false⟩ = ⟨0xFFFF, false, true⟩ ∧
    refAlu 0x0000 0x0000 ⟨false, false, true, true, false, true⟩ = ⟨0xFFFF, false, true⟩ ∧
    refAlu 0x0000 0xFFFF ⟨true, true, false, false, false, true⟩ = ⟨0x0000, true, false⟩ ∧
    refAlu 0xF0F0 0x0FF0 ⟨false, false, false, false, false, false⟩ = ⟨0x00F0, false, false⟩ ∧
    refAlu 0xF0F0 0x0FF0 ⟨false, true, false, true, false, true⟩ = ⟨0xFFF0, false, true⟩ := by
  and_intros <;> decide

/-- V4 through the destination rows' own meanings. -/
theorem test_destination_rows :
    execOf (.compDest000 3 .regA ⟨false, true, true, true, true, true⟩ Cond.never) (machine 12 41 8 99 false) = some
      (0x000C, 0x0029, 0x0009, 0x0063) ∧
    execOf (.compDest001 3 .regA ⟨false, true, true, true, true, true⟩ Cond.never) (machine 12 41 8 99 false) = some
      (0x000C, 0x0029, 0x0009, 0x002A) ∧
    execOf (.compDest010 3 .regA ⟨false, true, true, true, true, true⟩ Cond.never) (machine 12 41 8 99 false) = some
      (0x000C, 0x002A, 0x0009, 0x0063) ∧
    execOf (.compDest011 3 .regA ⟨false, true, true, true, true, true⟩ Cond.never) (machine 12 41 8 99 false) = some
      (0x000C, 0x002A, 0x0009, 0x002A) ∧
    execOf (.compDest100 3 .regA ⟨false, true, true, true, true, true⟩ Cond.never) (machine 12 41 8 99 false) = some
      (0x002A, 0x0029, 0x0009, 0x0063) ∧
    execOf (.compDest101 3 .regA ⟨false, true, true, true, true, true⟩ Cond.never) (machine 12 41 8 99 false) = some
      (0x002A, 0x0029, 0x0009, 0x002A) ∧
    execOf (.compDest110 3 .regA ⟨false, true, true, true, true, true⟩ Cond.never) (machine 12 41 8 99 false) = some
      (0x002A, 0x002A, 0x0009, 0x0063) ∧
    execOf (.compDest111 3 .regA ⟨false, true, true, true, true, true⟩ Cond.never) (machine 12 41 8 99 false) = some
      (0x002A, 0x002A, 0x0009, 0x002A) := by
  and_intros <;> decide

/-- V5 through the condition rows' own meanings: r = 0, 1, 0x7FFF, 0x8000, 0xFFFF. -/
theorem test_condition_rows :
    pcsOf (.compJump000 3 .regA ⟨false, false, true, true, false, false⟩ Dest.nowhere) [0x0000, 0x0001, 0x7FFF,
      0x8000, 0xFFFF] =
      [some 0x0009, some 0x0009, some 0x0009, some 0x0009, some 0x0009] ∧
    pcsOf (.compJump001 3 .regA ⟨false, false, true, true, false, false⟩ Dest.nowhere) [0x0000, 0x0001, 0x7FFF,
      0x8000, 0xFFFF] =
      [some 0x0009, some 0x0064, some 0x0064, some 0x0009, some 0x0009] ∧
    pcsOf (.compJump010 3 .regA ⟨false, false, true, true, false, false⟩ Dest.nowhere) [0x0000, 0x0001, 0x7FFF,
      0x8000, 0xFFFF] =
      [some 0x0064, some 0x0009, some 0x0009, some 0x0009, some 0x0009] ∧
    pcsOf (.compJump011 3 .regA ⟨false, false, true, true, false, false⟩ Dest.nowhere) [0x0000, 0x0001, 0x7FFF,
      0x8000, 0xFFFF] =
      [some 0x0064, some 0x0064, some 0x0064, some 0x0009, some 0x0009] ∧
    pcsOf (.compJump100 3 .regA ⟨false, false, true, true, false, false⟩ Dest.nowhere) [0x0000, 0x0001, 0x7FFF,
      0x8000, 0xFFFF] =
      [some 0x0009, some 0x0009, some 0x0009, some 0x0064, some 0x0064] ∧
    pcsOf (.compJump101 3 .regA ⟨false, false, true, true, false, false⟩ Dest.nowhere) [0x0000, 0x0001, 0x7FFF,
      0x8000, 0xFFFF] =
      [some 0x0009, some 0x0064, some 0x0064, some 0x0064, some 0x0064] ∧
    pcsOf (.compJump110 3 .regA ⟨false, false, true, true, false, false⟩ Dest.nowhere) [0x0000, 0x0001, 0x7FFF,
      0x8000, 0xFFFF] =
      [some 0x0064, some 0x0009, some 0x0009, some 0x0064, some 0x0064] ∧
    pcsOf (.compJump111 3 .regA ⟨false, false, true, true, false, false⟩ Dest.nowhere) [0x0000, 0x0001, 0x7FFF,
      0x8000, 0xFFFF] =
      [some 0x0064, some 0x0064, some 0x0064, some 0x0064, some 0x0064] := by
  and_intros <;> decide

/-- E4: D minus A stored at the old A through the rows COMP and COMP.a0; the word is 0xE4C8. -/
theorem test_source_example_store :
    execOf (.comp 3 .regA ⟨false, true, false, false, true, true⟩ ⟨false, false, true⟩ Cond.never) (machine 3 5 0
      0x1111 false) = some (3, 5, 1, 2) ∧
    execOf (.compA0 3 ⟨false, true, false, false, true, true⟩ ⟨false, false, true⟩ Cond.never) (machine 3 5 0 0x1111
      false) = some (3, 5, 1, 2) ∧
    encode (.compA0 3 ⟨false, true, false, false, true, true⟩ ⟨false, false, true⟩ Cond.never) = 0xE4C8 := by
  and_intros <;> decide

/-- V3, `D=M` and `D=D-M`, through the row COMP.a1. -/
theorem test_memory_operand_row :
    execOf (.compA1 3 ⟨true, true, false, false, false, false⟩ ⟨false, true, false⟩ Cond.never) (machine 0x8003 5 1
      0x64 false) = some (0x8003, 0x0064, 2, 0x64) ∧
    execOf (.compA1 3 ⟨false, true, false, false, true, true⟩ ⟨false, true, false⟩ Cond.never) (machine 0x10 5 1 7
      false) = some (0x10, 0xFFFE, 2, 7) := by
  and_intros <;> decide

/-- P5, tick 3: `AMD=D-1;JGT` (0xE3B9) from A = 9, D = 5 stores at 9 and jumps to 9. -/
theorem test_old_address : tickOf 0xE3B9 (machine 9 5 3 0 false) = some (4, 4, 9, 4) := by decide

/-- A word placed by `withFetchWord` is the next step's instruction, right after reset. -/
theorem test_with_fetch_word :
    view 0 (step (State.reset.withFetchWord 16 0x0064)) = some (100, 0, 1, 0) ∧
    view 0 (step (State.reset.withFetchWord 16 0xEFC8)) = some (0, 0, 1, 1) := by
  and_intros <;> decide

/-- E4: memory_data_out = 2, memory_write = 1, memory_address = 3, no register load, PC 1. -/
theorem test_network_signals :
    (combinational refAlu 0xE4C8 0x1111 false 3 5 0).memoryDataOut = 2 ∧
    (combinational refAlu 0xE4C8 0x1111 false 3 5 0).memoryWrite = true ∧
    (combinational refAlu 0xE4C8 0x1111 false 3 5 0).memoryAddress = 3 ∧
    (combinational refAlu 0xE4C8 0x1111 false 3 5 0).loadA = false ∧
    (combinational refAlu 0xE4C8 0x1111 false 3 5 0).loadD = false ∧
    (combinational refAlu 0xE4C8 0x1111 false 3 5 0).pcNext = 1 := by
  and_intros <;> decide

/-- V1: sum and carry. -/
theorem test_adder_rows :
    add16c 0x0000 0x0000 false = ⟨0x0000, false⟩ ∧
    add16c 0x0000 0x0000 true = ⟨0x0001, false⟩ ∧
    add16c 0xFFFF 0x0000 true = ⟨0x0000, true⟩ ∧
    add16c 0xFFFF 0xFFFF true = ⟨0xFFFF, true⟩ ∧
    add16c 0xFFFF 0xFFFF false = ⟨0xFFFE, true⟩ ∧
    add16c 0x00FF 0x0001 false = ⟨0x0100, false⟩ ∧
    add16c 0x00FF 0x0000 true = ⟨0x0100, false⟩ ∧
    add16c 0xFF00 0x0100 false = ⟨0x0000, true⟩ ∧
    add16c 0x8000 0x8000 false = ⟨0x0000, true⟩ ∧
    add16c 0x7FFF 0x0001 false = ⟨0x8000, false⟩ ∧
    add16c 0x1234 0x4321 false = ⟨0x5555, false⟩ ∧
    add16c 0x1234 0xEDCB true = ⟨0x0000, true⟩ ∧
    add16c 0x00FF 0x00FF true = ⟨0x01FF, false⟩ ∧
    add16c 0xFEFF 0x0001 false = ⟨0xFF00, false⟩ ∧
    add16c 0xFEFF 0x0100 true = ⟨0x0000, true⟩ ∧
    add16c 0x0001 0xFFFF false = ⟨0x0000, true⟩ ∧
    add16c 0xABCD 0x5432 false = ⟨0xFFFF, false⟩ ∧
    add16c 0xABCD 0x5432 true = ⟨0x0000, true⟩ := by
  and_intros <;> decide

/-- V1, ADD8C alone. -/
theorem test_adder_stage :
    add8c 0x00 0x00 false = ⟨0x00, false⟩ ∧
    add8c 0xFF 0x00 true = ⟨0x00, true⟩ ∧
    add8c 0xFF 0xFF true = ⟨0xFF, true⟩ ∧
    add8c 0x80 0x80 false = ⟨0x00, true⟩ ∧
    add8c 0x7F 0x01 false = ⟨0x80, false⟩ ∧
    add8c 0x12 0x34 true = ⟨0x47, false⟩ := by
  and_intros <;> decide

/-- A word of which one half is 0 lists one byte; writing the unlisted value removes the entry (log entries 2 and 5).
-/
theorem test_memory_form :
    Memory.writeWord [] 3 0x0100 = [(7, 0x01)] ∧
    Memory.writeWord [(7, 0x01)] 3 0 = [] ∧
    Memory.writeWord [] 0x7FFF 0x1234 = [(65534, 0x34), (65535, 0x12)] := by
  and_intros <;> decide

/-! ## Witnesses: states and operands that meet the hypotheses of the obligations -/

/-- `@4` at 4 and `0;JMP` at 5: the self-loop of P7. -/
def loopState : State where
  a := 4
  d := 0xBEEF
  pc := 4
  dm := []
  im := Memory.writeWord (Memory.writeWord [] 4 0x0004) 5 0xEA87
  resetIn := []

/-- A constant ALU. -/
def constAlu : Alu := fun _ _ _ => ⟨0, true, false⟩

/-- `D=D+A`, the instruction of V3's first row. -/
def addInstr : Instr := .compCtl000010 3 .regA ⟨false, true, false⟩ Cond.never

/-- Its fields. -/
def addFields : CompFields := ⟨3, .regA, ⟨false, false, false, false, true, false⟩, ⟨false, true, false⟩, Cond.never⟩

/-- `AMD=M+1;JMP`: every destination, the memory operand, a jump. -/
def allInstr : Instr := .compCtl110111 3 .mem ⟨true, true, true⟩ Cond.always

/-- Its fields. -/
def allFields : CompFields := ⟨3, .mem, ⟨true, true, false, true, true, true⟩, ⟨true, true, true⟩, Cond.always⟩

/-- The state V3's rows start from. -/
def s0 : State := machine 3 5 1 0x64 false

/-- O1, for an address-load and a compute instruction. -/
theorem test_witness_EveryInstructionDecodesFromItsWord : WellFormed (.aload 0x7FFF) ∧ WellFormed addInstr := by decide

/-- O3, each clause at the boundary. -/
theorem test_witness_TypeBitAloneTellsTheFormats : (0x7FFF : Word).toNat < 0x8000 ∧ 0x8000 ≤ (0x8000 : Word).toNat :=
    by decide

/-- O4. -/
theorem test_witness_ComputeFieldsStandWhereTheTablePutsThem : (decodeWord 0xE090).fields = .inr addFields := by decide

/-- O6: two rows, one word. -/
theorem test_witness_SameWordSameEffect : encode (.comp 3 .regA Ctl.zero ⟨true, false, false⟩ Cond.never) = encode
    (.compDest100 3 .regA Ctl.zero Cond.never) := by decide

/-- O7: the words of V7. -/
theorem test_witness_IgnoredBitsChangeNothing : (0x8310 : Word).getLsbD 15 = true ∧ (0xE310 : Word).getLsbD 15 = true ∧
    (0x8310 : Word).extractLsb' 0 13 = (0xE310 : Word).extractLsb' 0 13 := by decide

/-- O8. -/
theorem test_witness_StepRunsTheDecodedInstruction : WellFormed addInstr ∧
    decodeBytes [Memory.byteAt (s0.placeWord 0xE090).im 2, Memory.byteAt (s0.placeWord 0xE090).im 3] = .ok (addInstr,
      []) := ⟨by decide, rfl⟩

/-- O9. -/
theorem test_witness_StepRunsTheWordAtPc : Memory.readWord (s0.placeWord 0xE090).im (s0.placeWord 0xE090).pc = encode
    addInstr := by decide

/-- O10. -/
theorem test_witness_PlacedWordRunsNext : Memory.wf loopState.im = true := by decide

/-- O12, each clause. -/
theorem test_witness_InstructionsForEveryAlu : Memory.readWord loopState.im loopState.pc = packLiteral 4 ∧
    Memory.readWord (s0.placeWord 0xE090).im (s0.placeWord 0xE090).pc = addFields.pack := by decide

/-- O16: after `@100` from the launch state there is no reset. -/
theorem test_witness_LoadedAddressIsUsableAtOnce : ∃ t, exec (.aload 100) State.reset = .next t ∧ t.resetIn.head? ≠
    some true := ⟨_, rfl, by decide⟩

/-- O19, a field with all flags clear but one and a field with all set. -/
theorem test_witness_DestinationFlags : addInstr.fields = .inr addFields ∧ allInstr.fields = .inr allFields ∧
    allFields.dest.dM = true := by decide

/-- O31: the constant ALU obeys the flag law. -/
theorem test_witness_FlagsOfEveryLawfulAlu : constAlu.FlagLaw := fun _ _ _ => (by decide : true = decide ((0 : Word) =
    0) ∧ false = (0 : Word).getLsbD 15)

/-- O38, each clause. -/
theorem test_witness_NetworkControlSignals : (0x0064 : Word).getLsbD 15 = false ∧ (0xE308 : Word).getLsbD 15 = true ∧
    (combinational constAlu 0xE308 0 false 3 5 0).memoryWrite = true := by decide

/-- O39. -/
theorem test_witness_AddressLoadFrame : ∃ t, exec (.aload 100) s0 = .next t := ⟨_, rfl⟩

/-- O40: no destination but D; all destinations, with a byte outside the stored word. -/
theorem test_witness_ComputeFrame : (addInstr.fields = .inr addFields ∧ addFields.dest.dA = false ∧ addFields.dest.dM
    = false ∧ ∃ t, exec addInstr s0 = .next t) ∧
    (allInstr.fields = .inr allFields ∧ (∃ t, exec allInstr s0 = .next t) ∧ 5 ≠ Memory.lowByteAddr s0.memAddr ∧
      5 ≠ Memory.lowByteAddr s0.memAddr + 1) ∧ (Instr.compDest101 3 .regA Ctl.zero Cond.never).fields = .inr ⟨3,
        .regA, Ctl.zero, ⟨true, false, true⟩, Cond.never⟩ := ⟨⟨rfl, rfl, rfl, _, rfl⟩, ⟨rfl, ⟨_, rfl⟩, by decide, by
        decide⟩, rfl⟩

/-- O41: an address-load, and a store with a word equal to the stored address and one that is not. -/
theorem test_witness_DataWordsAfterAnInstruction : Memory.wf s0.dm = true ∧ (∃ t, exec (.aload 100) s0 = .next t) ∧ (∃
    t, exec allInstr s0 = .next t) ∧
    allFields.dest.dM = true ∧ (3 : Addr) = lowAddr s0.a ∧ (4 : Addr) ≠ lowAddr s0.a := ⟨by decide, ⟨_, rfl⟩, ⟨_,
      rfl⟩, rfl, by decide, by decide⟩

/-- O42: ticks that change A, D, the data memory, and bit 15 of A (R128's example). -/
theorem test_witness_OnlyTheseBitsWrite :
    (∃ t, step (s0.placeWord 0x0064) = .next t ∧ t.a ≠ s0.a) ∧
    (∃ t, step (s0.placeWord 0xE090) = .next t ∧ t.d ≠ s0.d) ∧
    (∃ t, step (s0.placeWord 0xE308) = .next t ∧ t.dm ≠ s0.dm) ∧
    (0x7FFF : Word).getLsbD 15 = false ∧
    ∃ t, step ((machine 0x7FFF 0 0 0 false).placeWord 0xEDE0) = .next t ∧ t.a.getLsbD 15 = true :=
  ⟨⟨_, rfl, by decide⟩, ⟨_, rfl, by decide⟩, ⟨_, rfl, by decide⟩, by decide, _, rfl, by decide⟩

/-- O44, for an address-load, a compute instruction with a = 0, and one that stores. -/
theorem test_witness_UnselectedMemoryWordIsNotRead : (∀ c, (Instr.aload 5).fields = .inr c → c.a = .regA) ∧
    (∀ c, addInstr.fields = .inr c → c.a = .regA) ∧
    ∀ c, (Instr.compCtl011111 3 .regA ⟨false, false, true⟩ Cond.never).fields = .inr c → c.a = .regA :=
  ⟨fun _ h => (nomatch h), fun _ h => by cases h; rfl, fun _ h => by cases h; rfl⟩

/-- O45. -/
theorem test_witness_OldAddressEverywhere : allInstr.fields = .inr allFields ∧ allFields.dest.dA = true ∧
    allFields.dest.dM = true ∧ allFields.cond = Cond.always ∧
    s0.resetIn.head? ≠ some true := by decide

/-- O46: the word 0xEA80 of V6. -/
theorem test_witness_WordsThatOnlyAdvance : (Memory.readWord (s0.placeWord 0xEA80).im (s0.placeWord
    0xEA80).pc).getLsbD 15 = true ∧
    (Memory.readWord (s0.placeWord 0xEA80).im (s0.placeWord 0xEA80).pc).extractLsb' 0 6 = 0 := by decide

/-- O47, the four cases: reset (V6), jump (V5), the wrap (V2), the increment (V3). -/
theorem test_witness_ProgramCounterPriorities :
    (machine 0x64 0 7 0 true).resetIn.head? = some true ∧
    Claims.condMet Cond.always (cpuAlu 0 0x64 Ctl.zero) = true ∧
    (machine 0 0 0x7FFF 0 false).pc.toNat = 32767 ∧
    s0.pc.toNat ≠ 32767 := by
  and_intros <;> decide

/-- O48. -/
theorem test_witness_ResetForcesPcToZero : (machine 0x64 0 7 0 true).resetIn.head? = some true := by decide

/-- O50: two ticks of reset, n = 1 and n = 2. -/
theorem test_witness_HeldResetHoldsPc : loopState.resetIn = List.replicate 0 true ++ [] ∧ ({ loopState with resetIn :=
    [true, true, false] }).resetIn =
    List.replicate 2 true ++ [false] ∧ 1 ≤ 1 ∧ 1 ≤ 2 ∧ 2 ≤ 2 := by decide

/-- O52: a memory that is not empty, the written address and another one. -/
theorem test_witness_MemoryIsWordStorage : Memory.wf loopState.im = true ∧ (0x7FFF : Addr) = 0x7FFF ∧ (0x7FFF : Addr)
    ≠ 4 := by decide

/-- O53: two words written in either order. -/
theorem test_witness_EqualContentsAreEqualMemories : ∀ n : Addr, Memory.wf loopState.im = true ∧ Memory.wf
    (Memory.writeWord (Memory.writeWord [] 5 0xEA87) 4 0x0004) = true ∧
    Memory.readWord loopState.im n = Memory.readWord (Memory.writeWord (Memory.writeWord [] 5 0xEA87) 4 0x0004) n :=
  fun n => ⟨by decide, by decide,
    congrArg (Memory.readWord · n)
      (show loopState.im = Memory.writeWord (Memory.writeWord [] 5 0xEA87) 4 0x0004 by decide)⟩

/-- O54: a store of a byte that is 0 from a canonical state, and a run of two ticks. -/
theorem test_witness_StepKeepsMemoriesCanonical : (s0.placeWord 0xE308).Inv ∧ (∃ t, step (s0.placeWord 0xE308) = .next
    t) ∧ ∃ t, RunsTo 2 loopState t := ⟨by decide, ⟨_, rfl⟩, _, rfl⟩

/-- O55. -/
theorem test_witness_LaunchMemoriesAreCanonical : s0.Inv := by decide

/-- O56. -/
theorem test_witness_NoRunWritesTheInstructionMemory : ∃ t, RunsTo 2 loopState t := ⟨_, rfl⟩

/-- O57 and O58: the loop of P7. -/
theorem test_witness_SelfLoop :
    loopState.a = BitVec.ofNat 16 loopState.pc.toNat ∧
    Memory.readWord loopState.im loopState.pc = packLiteral loopState.pc ∧
    Memory.readWord loopState.im (loopState.pc + 1) = 0xEA87 ∧
    (0xEA87 : Word) = CompFields.pack ⟨3, .regA, ⟨true, false, true, false, true, false⟩, Dest.nowhere, Cond.always⟩ ∧
    loopState.resetIn.head? ≠ some true ∧
    loopState.resetIn.tail.head? ≠ some true := by
  and_intros <;> decide

end Sys2Proof.Tests
end

section
/-! What one instruction and one tick leave, said once in the terms of `Claims`: the fields of the decoded word, the
program counter's rule in plain arithmetic, and the whole next state for each of the two formats. -/

namespace Sys2Proof.Machine

/-- A word with bit 15 clear decodes to the address-load of its low 15 bits (R60, R61). -/
theorem fields_decodeWord_of_load (w : Word) (h : w.getLsbD 15 = false) :
    (decodeWord w).fields = .inl (w.extractLsb' 0 15) := by
  rw [decodeWord, h]
  rfl

/-- A word with bit 15 set decodes to a compute instruction with the word's own fields (R60, R62). -/
theorem fields_decodeWord_of_compute (w : Word) (h : w.getLsbD 15 = true) :
    (decodeWord w).fields = .inr (CompFields.ofWord w) := by
  simp [decodeWord, h, fields_nameComp]

/-- Widening a literal leaves bit 15 clear (R68). -/
theorem getLsbD_zextWord_typeBit (v : BitVec 15) : (zextWord v).getLsbD 15 = false := by
  simp [zextWord]

/-- The address in a word is the word without its bit 15 (R41). -/
theorem lowAddr_eq_ofNat_mod (w : Word) : lowAddr w = BitVec.ofNat 15 (w.toNat % 32768) := by
  apply BitVec.eq_of_toNat_eq
  simp [lowAddr]

/-- The reset input is asserted when the schedule starts with 1 (R270). -/
theorem resetLine_eq_true_iff (s : State) : s.resetLine = true ↔ s.resetIn.head? = some true := by
  cases h : s.resetIn <;> simp [State.resetLine, h, Config.unlistedReset]

/-- The commit's next PC is the one the rule of R24 gives. -/
theorem nextPc_eq_pcAfter (s : State) (jump : Bool) : s.nextPc jump = Claims.pcAfter s jump := by
  have hinc : s.pc + 1 = BitVec.ofNat 15 ((s.pc.toNat + 1) % 32768) := by
    apply BitVec.eq_of_toNat_eq
    simp
  simp only [State.nextPc, Claims.pcAfter, resetLine_eq_true_iff, State.memAddr, lowAddr_eq_ofNat_mod, hinc]

/-- The rule of R24 as a number: the increment from 0x7FFF goes to 0. -/
theorem toNat_pcAfter (s : State) (jump : Bool) :
    (Claims.pcAfter s jump).toNat =
      if s.resetIn.head? = some true then 0
      else if jump then s.a.toNat % 32768
      else if s.pc.toNat = 32767 then 0 else s.pc.toNat + 1 := by
  have hpc := s.pc.isLt
  simp only [Claims.pcAfter]
  split
  · rfl
  · split
    · simp
    · simp only [BitVec.toNat_ofNat]
      split <;> omega

/-- The branch evaluator of a compute instruction decides as R127 says. -/
theorem branchEval_true_eq_condMet (j : Cond) (r : AluOut) :
    branchEval true j r.zero r.negative = Claims.condMet j r := by
  simp [branchEval, Claims.condMet, Bool.and_assoc]

/-- The second operand of the datapath is the one R125 and R126 name. -/
theorem operandY_eq_secondOperand (s : State) (a : Operand) : s.operandY a = Claims.secondOperand s a := by
  cases a <;> rfl

/-- The whole next state of a compute instruction, for any ALU (R127). -/
theorem compute_eq_afterCompute (alu : Alu) (a : Operand) (ctl : Ctl) (d : Dest) (j : Cond) (s : State) :
    compute alu a ctl d j s = Claims.afterCompute s (alu s.d (Claims.secondOperand s a) ctl) d j := by
  obtain ⟨dA, dD, dM⟩ := d
  rw [compute, computeEffect, State.commit, nextPc_eq_pcAfter, branchEval_true_eq_condMet, operandY_eq_secondOperand]
  cases dA <;> cases dD <;> cases dM <;> rfl

/-- The whole next state of an address-load (R120). -/
theorem exec_of_literal {i : Instr} {v : BitVec 15} (h : i.fields = .inl v) (s : State) :
    exec i s =
      .next { s with a := zextWord v, pc := Claims.pcAfter s false, resetIn := s.resetIn.tail } := by
  rw [exec_eq_commit, h, ← nextPc_eq_pcAfter]
  rfl

/-- The whole next state of every compute instruction, under any of its rows (R127). -/
theorem exec_of_compFields {i : Instr} {c : CompFields} (h : i.fields = .inr c) (s : State) :
    exec i s =
      .next (Claims.afterCompute s (cpuAlu s.d (Claims.secondOperand s c.a) c.ctl) c.dest c.cond) := by
  rw [exec_eq_commit, h, ← compute_eq_afterCompute]
  rfl

/-- The tick of a word with bit 15 clear (R120). -/
theorem step_of_load (s : State) (h : s.fetchWord.getLsbD 15 = false) :
    step s = .next { s with
      a := zextWord (s.fetchWord.extractLsb' 0 15), pc := Claims.pcAfter s false, resetIn := s.resetIn.tail } :=
  exec_of_literal (fields_decodeWord_of_load _ h) s

/-- The tick of a word with bit 15 set (R127). -/
theorem step_of_compute (s : State) (h : s.fetchWord.getLsbD 15 = true) :
    step s = .next (Claims.afterCompute s
      (cpuAlu s.d (Claims.secondOperand s (CompFields.ofWord s.fetchWord).a) (CompFields.ofWord s.fetchWord).ctl)
      (CompFields.ofWord s.fetchWord).dest (CompFields.ofWord s.fetchWord).cond) :=
  exec_of_compFields (fields_decodeWord_of_compute _ h) s

/-- A keeps its value without dA (R128). -/
theorem afterCompute_a_of_not_dA (s : State) (r : AluOut) (d : Dest) (j : Cond) (h : d.dA = false) :
    (Claims.afterCompute s r d j).a = s.a := by
  simp [Claims.afterCompute, Claims.afterResult, h]

/-- D keeps its value without dD (R129). -/
theorem afterCompute_d_of_not_dD (s : State) (r : AluOut) (d : Dest) (j : Cond) (h : d.dD = false) :
    (Claims.afterCompute s r d j).d = s.d := by
  simp [Claims.afterCompute, Claims.afterResult, h]

/-- The data memory keeps its value without dM (R130). -/
theorem afterCompute_dm_of_not_dM (s : State) (r : AluOut) (d : Dest) (j : Cond) (h : d.dM = false) :
    (Claims.afterCompute s r d j).dm = s.dm := by
  simp [Claims.afterCompute, Claims.afterResult, h]

/-- What an instruction asks of the commit does not depend on PC (R23). -/
theorem effectOf_with_pc (f : BitVec 15 ⊕ CompFields) (s : State) (pc : Addr) :
    effectOf f { s with pc := pc } = effectOf f s := by
  obtain v | ⟨_, a, _, _, _⟩ := f
  · rfl
  · cases a <;> rfl

/-- A memory that lists no byte reads 0 at every word. -/
@[simp] theorem readWord_nil (n : Addr) : Memory.readWord [] n = 0 := by
  simp [Memory.readWord, Memory.byteAt, Config.unlistedByte]

end Sys2Proof.Machine
end

section
/-! The state family: which bits of a word write A, D and the data memory, and the program counter's rule. -/

namespace Sys2Proof.Machine

/-- Settles O42, by the two formats: a compute word leaves what its destination flags do not name, and an address-load
changes A alone, to a word with bit 15 clear. -/
theorem onlyTheseBitsWrite : Obligations.OnlyTheseBitsWrite := by
  intro s t h w
  cases hw : w.getLsbD 15 with
  | false =>
    obtain rfl := Host.Outcome.next.inj ((step_of_load s hw).symm.trans h)
    exact ⟨fun _ => .inl rfl, fun hd => absurd rfl hd, fun hdm => absurd rfl hdm,
      fun _ h15 => (getLsbD_zextWord_typeBit _).symm.trans h15⟩
  | true =>
    obtain rfl := Host.Outcome.next.inj ((step_of_compute s hw).symm.trans h)
    refine ⟨fun ha => .inr ?_, fun hd => ⟨rfl, ?_⟩, fun hdm => ⟨rfl, ?_⟩, fun _ _ => rfl⟩
    · exact Bool.eq_true_of_not_eq_false fun h5 => ha (afterCompute_a_of_not_dA _ _ _ _ h5)
    · exact Bool.eq_true_of_not_eq_false fun h4 => hd (afterCompute_d_of_not_dD _ _ _ _ h4)
    · exact Bool.eq_true_of_not_eq_false fun h3 => hdm (afterCompute_dm_of_not_dM _ _ _ _ h3)

/-- Settles O43: PC enters neither what the instruction asks of the commit nor the commit's A, D and data memory. -/
theorem programCounterIsNoData : Obligations.ProgramCounterIsNoData := by
  intro i s pc
  refine ⟨_, _, exec_eq_commit i s, exec_eq_commit i { s with pc := pc }, ?_⟩
  rw [effectOf_with_pc]
  exact ⟨rfl, rfl, rfl⟩

/-- Settles O47: each format's next PC is the rule of R24, with no jump for an address-load and the condition code's
decision for a compute instruction. -/
theorem programCounterPriorities : Obligations.ProgramCounterPriorities := by
  intro i s
  cases hf : i.fields with
  | inl v => exact ⟨_, exec_of_literal hf s, toNat_pcAfter s false⟩
  | inr c => exact ⟨_, exec_of_compFields hf s, toNat_pcAfter s (Claims.condMet c.cond _)⟩

/-- Settles O51, field by field: the registers are the defaults of R32, the schedule of resets and both memories list
nothing. -/
theorem launchStateContents : Obligations.LaunchStateContents := by
  refine ⟨reset_a, reset_d, reset_pc, reset_resetIn, fun k => ?_, fun n => ⟨?_, ?_⟩⟩
  · simp [Config.unlistedReset]
  · rw [reset_dm, readWord_nil]
  · rw [reset_im, readWord_nil]

end Sys2Proof.Machine
end

section
/-! What a memory is as data and as storage: the canonical form cell by cell, words read after a word is written, and
the contents that fix a canonical list. -/

namespace Sys2Proof.Machine

/-- The canonical form of a list with a first cell. -/
theorem wfFrom_cons_iff (lo k : Nat) (v : Byte) (rest : Memory) :
    Memory.wfFrom lo ((k, v) :: rest) = true ↔
      lo ≤ k ∧ k < 65536 ∧ v ≠ Config.unlistedByte ∧ Memory.wfFrom (k + 1) rest = true := by
  simp only [Memory.wfFrom, Bool.and_eq_true, decide_eq_true_eq, bne_iff_ne, and_assoc]

@[simp] theorem byteAt_cons_self (k : Nat) (v : Byte) (rest : Memory) : Memory.byteAt ((k, v) :: rest) k = v :=
  if_pos rfl

theorem byteAt_cons_of_ne {k n : Nat} (v : Byte) (rest : Memory) (h : k ≠ n) :
    Memory.byteAt ((k, v) :: rest) n = Memory.byteAt rest n := if_neg h

/-- A canonical memory reads as unlisted above the address space. -/
theorem byteAt_above (m : Memory) (lo n : Nat) (h : Memory.wfFrom lo m = true) (hn : 65536 ≤ n) :
    Memory.byteAt m n = Config.unlistedByte := by
  induction m generalizing lo with
  | nil => rfl
  | cons c rest ih =>
    obtain ⟨k, v⟩ := c
    obtain ⟨-, hk, -, hrest⟩ := (wfFrom_cons_iff lo k v rest).mp h
    rw [byteAt_cons_of_ne v rest (by omega)]
    exact ih (k + 1) hrest

/-- Of two canonical memories with the same bytes, neither can start above the other: the first cell of a canonical
memory does not read as unlisted. -/
theorem firstAddr_le_of_byteAt_eq {lo lo' k k' : Nat} {v v' : Byte} {rest rest' : Memory}
    (h : Memory.wfFrom lo ((k, v) :: rest) = true) (h' : Memory.wfFrom lo' ((k', v') :: rest') = true)
    (heq : ∀ n, Memory.byteAt ((k, v) :: rest) n = Memory.byteAt ((k', v') :: rest') n) : k' ≤ k := by
  obtain ⟨-, -, hv, -⟩ := (wfFrom_cons_iff ..).mp h
  obtain ⟨-, hcell'⟩ := (wfFrom_cons_iff ..).mp h'
  by_contra hlt
  have hbelow := byteAt_below _ k' k ((wfFrom_cons_iff ..).mpr ⟨le_rfl, hcell'⟩) (by omega)
  exact hv ((byteAt_cons_self k v rest).symm.trans ((heq k).trans hbelow))

/-- Two canonical memories with the same bytes are the same list. -/
theorem eq_of_byteAt_eq (m m' : Memory) (lo : Nat) (h : Memory.wfFrom lo m = true)
    (h' : Memory.wfFrom lo m' = true) (heq : ∀ n, Memory.byteAt m n = Memory.byteAt m' n) : m = m' := by
  induction m generalizing lo m' with
  | nil =>
    cases m' with
    | nil => rfl
    | cons c' rest' =>
      obtain ⟨-, -, hv', -⟩ := (wfFrom_cons_iff lo c'.1 c'.2 rest').mp h'
      exact absurd ((heq c'.1).trans (byteAt_cons_self ..)).symm hv'
  | cons c rest ih =>
    obtain ⟨k, v⟩ := c
    cases m' with
    | nil =>
      obtain ⟨-, -, hv, -⟩ := (wfFrom_cons_iff lo k v rest).mp h
      exact absurd ((byteAt_cons_self ..).symm.trans (heq k)) hv
    | cons c' rest' =>
      obtain ⟨k', v'⟩ := c'
      obtain rfl : k = k' := Nat.le_antisymm
        (firstAddr_le_of_byteAt_eq h' h fun n => (heq n).symm) (firstAddr_le_of_byteAt_eq h h' heq)
      obtain rfl : v = v' := by simpa using heq k
      obtain ⟨-, -, -, hrest⟩ := (wfFrom_cons_iff ..).mp h
      obtain ⟨-, -, -, hrest'⟩ := (wfFrom_cons_iff ..).mp h'
      have htail : rest = rest' := ih rest' (k + 1) hrest hrest' fun n => by
        rcases Nat.lt_or_ge k n with hlt | hge
        · simpa only [byteAt_cons_of_ne v _ hlt.ne] using heq n
        · rw [byteAt_below rest (k + 1) n hrest (by omega), byteAt_below rest' (k + 1) n hrest' (by omega)]
      rw [htail]

/-- A word is its two bytes in the decoder's order. -/
theorem readWord_eq_wordOfBytes (m : Memory) (n : Addr) :
    Memory.readWord m n =
      wordOfBytes (Memory.byteAt m (Memory.lowByteAddr n)) (Memory.byteAt m (Memory.lowByteAddr n + 1)) := rfl

/-- A word determines its two bytes. -/
theorem wordOfBytes_inj {lo hi lo' hi' : Byte} (h : wordOfBytes lo hi = wordOfBytes lo' hi') :
    lo = lo' ∧ hi = hi' :=
  ⟨by simpa only [wordOfBytes, BitVec.extractLsb'_append_eq_right] using congrArg (·.extractLsb' 0 8) h,
    by simpa only [wordOfBytes, BitVec.extractLsb'_append_eq_left] using congrArg (·.extractLsb' 8 8) h⟩

/-- Every byte address of the address space is one of the two of a word. -/
theorem exists_lowByteAddr (k : Nat) (hk : k < 65536) :
    ∃ n : Addr, k = Memory.lowByteAddr n ∨ k = Memory.lowByteAddr n + 1 := by
  refine ⟨BitVec.ofNat 15 (k / 2), ?_⟩
  simp only [Memory.lowByteAddr, BitVec.toNat_ofNat]
  omega

/-- Two canonical memories with the same words have the same bytes, inside the address space and above it. -/
theorem byteAt_eq_of_readWord_eq {m m' : Memory} (h : Memory.wf m = true) (h' : Memory.wf m' = true)
    (heq : ∀ n : Addr, Memory.readWord m n = Memory.readWord m' n) (k : Nat) :
    Memory.byteAt m k = Memory.byteAt m' k := by
  rcases Nat.lt_or_ge k 65536 with hk | hk
  · obtain ⟨n, hn⟩ := exists_lowByteAddr k hk
    obtain ⟨hlow, hhigh⟩ := wordOfBytes_inj (heq n)
    obtain rfl | rfl := hn
    · exact hlow
    · exact hhigh
  · rw [byteAt_above m 0 k h hk, byteAt_above m' 0 k h' hk]

/-- A word written is read back, in a canonical memory (R51). -/
theorem readWord_writeWord_self (m : Memory) (n : Addr) (w : Word) (h : Memory.wf m = true) :
    Memory.readWord (Memory.writeWord m n w) n = w := by
  have hlt := lowByteAddr_lt n
  have hlow : Memory.wf (Memory.setByte m (Memory.lowByteAddr n) (w.extractLsb' 0 8)) = true :=
    wf_setByte _ _ _ h (by omega)
  rw [readWord_eq_wordOfBytes, Memory.writeWord, byteAt_setByte_self _ 0 _ _ hlow,
    byteAt_setByte_of_ne _ _ _ _ (by omega), byteAt_setByte_self _ 0 _ _ h]
  exact wordOfBytes_bytesOfWord w

/-- A word write leaves every other word, in any list (R49). -/
theorem readWord_writeWord_of_ne (m : Memory) {n k : Addr} (w : Word) (h : k ≠ n) :
    Memory.readWord (Memory.writeWord m n w) k = Memory.readWord m k := by
  have hne : k.toNat ≠ n.toNat := fun heq => h (BitVec.eq_of_toNat_eq heq)
  have hbyte (b : Nat) (hb : b < 2) : Memory.byteAt (Memory.writeWord m n w) (Memory.lowByteAddr k + b) =
      Memory.byteAt m (Memory.lowByteAddr k + b) := by
    apply byteAt_writeWord_of_ne <;> simp only [Memory.lowByteAddr] <;> omega
  rw [readWord_eq_wordOfBytes, readWord_eq_wordOfBytes, hbyte 1 (by omega)]
  exact congrArg (wordOfBytes · _) (hbyte 0 (by omega))

/-- Word storage as one equation: the written word at its address, every other word as it was. -/
theorem readWord_writeWord (m : Memory) (n k : Addr) (w : Word) (h : Memory.wf m = true) :
    Memory.readWord (Memory.writeWord m n w) k = if k = n then w else Memory.readWord m k := by
  split
  · next heq => rw [heq, readWord_writeWord_self m n w h]
  · next hne => exact readWord_writeWord_of_ne m w hne

end Sys2Proof.Machine
end

section
/-! Fetching and running: the fields of an instruction's own word, the word a placed instruction is fetched as, one
tick as one commit, and the one induction over the length of a run. -/

namespace Sys2Proof.Machine

/-- The word of an address-load. -/
theorem encode_of_literal {i : Instr} {v : BitVec 15} (h : i.fields = .inl v) : encode i = packLiteral v := by
  rw [encode, h]

/-- The word of a compute instruction, under any of its rows. -/
theorem encode_of_compFields {i : Instr} {c : CompFields} (h : i.fields = .inr c) : encode i = c.pack := by
  rw [encode, h]

/-- An instruction's word decodes to an instruction with the same fields, also where the name differs (log entry 1). -/
theorem fields_decodeWord_encode (i : Instr) : (decodeWord (encode i)).fields = i.fields := by
  cases hf : i.fields with
  | inl v =>
    rw [encode_of_literal hf, fields_decodeWord_of_load _ (Laws.TypeBit.of_packLiteral v), extract_packLiteral]
  | inr c =>
    rw [encode_of_compFields hf, fields_decodeWord_of_compute _ (Laws.TypeBit.of_pack c), ofWord_pack]

/-- Instructions with the same fields have the same effect (R71). -/
theorem exec_eq_of_fields_eq {i j : Instr} (h : i.fields = j.fields) (s : State) : exec i s = exec j s := by
  rw [exec_eq_commit, exec_eq_commit, h]

/-- Two bytes hold exactly one instruction (R60). -/
theorem decodeBytes_pair (lo hi : Byte) : decodeBytes [lo, hi] = .ok (decodeWord (wordOfBytes lo hi), []) := rfl

/-- The table-numbered decoder answers for a word what the decoder answers for it (R8). -/
theorem decodeTableWord_toNat (w : Word) : decodeTableWord 16 w.toNat = some (decodeWord w) := by
  rw [decodeTableWord, Nat.mod_eq_of_lt w.isLt, BitVec.ofNat_toNat, BitVec.setWidth_eq, bytesOfWord,
    decodeBytes_pair, wordOfBytes_bytesOfWord]

/-- Placing the table-numbered bits of a word places the word. -/
theorem withFetchWord_toNat (s : State) (w : Word) : s.withFetchWord 16 w.toNat = s.placeWord w := by
  rw [State.withFetchWord, Nat.mod_eq_of_lt w.isLt, BitVec.ofNat_toNat, BitVec.setWidth_eq]

/-- A word placed at PC is the next word fetched, in a canonical instruction memory (R47). -/
theorem fetchWord_placeWord (s : State) (w : Word) (h : Memory.wf s.im = true) : (s.placeWord w).fetchWord = w :=
  readWord_writeWord_self s.im s.pc w h

/-- A tick is one commit, of what the fields of the word at PC ask (R102). -/
theorem step_eq_commit (s : State) : step s = .next (s.commit (effectOf (decodeWord s.fetchWord).fields s)) :=
  exec_eq_commit _ s

/-- A tick that answers a state answers a commit of the state before it. -/
theorem exists_commit_of_step {s t : State} (h : step s = .next t) : ∃ e, t = s.commit e :=
  ⟨_, (Host.Outcome.next.inj ((step_eq_commit s).symm.trans h)).symm⟩

/-- The commit keeps both memories canonical. -/
theorem inv_commit (s : State) (e : Effect) (h : s.Inv) : (s.commit e).Inv := by
  obtain ⟨hdm, him⟩ := h
  exact ⟨wf_commit_dm s e hdm, him⟩

@[simp] theorem runsTo_zero_iff (s t : State) : RunsTo 0 s t ↔ s = t :=
  ⟨Host.Outcome.next.inj, congrArg _⟩

/-- A longer run is one tick and the rest of the run. -/
theorem runsTo_succ_iff (n : Nat) (s t : State) :
    RunsTo (n + 1) s t ↔ ∃ u, step s = .next u ∧ RunsTo n u t := by
  have hrun {u : State} (hu : Sys2Proof.core.step s = .next u) : RunsTo (n + 1) s t ↔ RunsTo n u t := by
    simp only [RunsTo, Host.Core.run, hu]
  constructor
  · exact fun h => ⟨_, step_eq_commit s, (hrun (step_eq_commit s)).mp h⟩
  · rintro ⟨u, hu, hrest⟩
    exact (hrun hu).mpr hrest

/-- What every tick keeps, every run keeps. -/
theorem run_keeps {P : State → Prop} (hstep : ∀ s t, P s → step s = .next t → P t) (n : Nat) (s t : State)
    (hs : P s) (hrun : RunsTo n s t) : P t := by
  induction n generalizing s with
  | zero => exact (runsTo_zero_iff s t).mp hrun ▸ hs
  | succ n ih =>
    obtain ⟨u, hu, hrest⟩ := (runsTo_succ_iff n s t).mp hrun
    exact ih u (hstep s u hs hu) hrest

/-- A tick keeps both memories canonical. -/
theorem step_keeps_inv (s t : State) (hs : s.Inv) (h : step s = .next t) : t.Inv := by
  obtain ⟨e, rfl⟩ := exists_commit_of_step h
  exact inv_commit s e hs

/-- A tick does not write the instruction memory (R47). -/
theorem step_im {s t : State} (h : step s = .next t) : t.im = s.im := by
  obtain ⟨e, rfl⟩ := exists_commit_of_step h
  exact commit_im s e

end Sys2Proof.Machine
end

section
/-! The memory family: both memories as word storage in one canonical form, the instruction memory as what is run and
never written, and what an instruction does to the data memory. -/

namespace Sys2Proof.Machine

/-- Settles O54: a tick is one commit, whose only memory operation is a word write, and a run is its ticks. -/
theorem stepKeepsMemoriesCanonical : Obligations.StepKeepsMemoriesCanonical :=
  ⟨step_keeps_inv, run_keeps step_keeps_inv⟩

/-- Settles O56, by the induction over runs for the property of having the first state's instruction memory. -/
theorem noRunWritesTheInstructionMemory : Obligations.NoRunWritesTheInstructionMemory := by
  intro n s t hrun
  exact run_keeps (P := fun u => u.im = s.im) (fun _ _ hu h => (step_im h).trans hu) n s t rfl hrun

/-- Settles O9: the decoded instruction may have another name, but it has the fields of `i`, and only they count. -/
theorem stepRunsTheWordAtPc : Obligations.StepRunsTheWordAtPc := by
  intro s i h
  have hfields : (decodeWord s.fetchWord).fields = i.fields := by
    rw [State.fetchWord, h, fields_decodeWord_encode]
  exact exec_eq_of_fields_eq hfields s

/-- Settles O10: the placed word is the word fetched. -/
theorem placedWordRunsNext : Obligations.PlacedWordRunsNext := by
  intro s w h
  refine ⟨decodeTableWord_toNat w, ?_⟩
  rw [withFetchWord_toNat, step, fetchWord_placeWord s w h]

/-- The data words after a compute instruction: the stored one, and every other as it was (R49, R51). -/
theorem readWord_afterCompute_dm (s : State) (r : AluOut) (d : Dest) (j : Cond) (n : Addr)
    (h : Memory.wf s.dm = true) :
    Memory.readWord (Claims.afterCompute s r d j).dm n =
      if d.dM = true ∧ n = lowAddr s.a then r.out else Memory.readWord s.dm n := by
  cases hM : d.dM with
  | false => simp [afterCompute_dm_of_not_dM s r d j hM]
  | true => simp [Claims.afterCompute, Claims.afterResult, hM, readWord_writeWord s.dm _ n r.out h]

/-- Settles O41: an address-load leaves the data memory, and a compute instruction is one word write or none. -/
theorem dataWordsAfterAnInstruction : Obligations.DataWordsAfterAnInstruction := by
  intro i s t hwf h
  cases hf : i.fields with
  | inl v =>
    obtain rfl := Host.Outcome.next.inj ((exec_of_literal hf s).symm.trans h)
    exact fun _ => rfl
  | inr c =>
    obtain rfl := Host.Outcome.next.inj ((exec_of_compFields hf s).symm.trans h)
    exact fun n => readWord_afterCompute_dm s _ c.dest c.cond n hwf

/-- What an instruction asks of the commit does not depend on the data memory, unless it selects the memory operand
(R125). -/
theorem effectOf_with_dm (f : BitVec 15 ⊕ CompFields) (s : State) (m : Memory)
    (h : ∀ c, f = .inr c → c.a = .regA) : effectOf f { s with dm := m } = effectOf f s := by
  cases f with
  | inl v => rfl
  | inr c => simp only [effectOf, computeEffect, h c rfl, State.operandX, State.operandY]

/-- Settles O44: both states commit one and the same effect, so its `store` is the word stored in either. -/
theorem unselectedMemoryWordIsNotRead : Obligations.UnselectedMemoryWordIsNotRead := by
  intro i s m h
  refine ⟨_, _, (effectOf i.fields s).store, exec_eq_commit i s, exec_eq_commit i { s with dm := m }, ?_⟩
  rw [effectOf_with_dm i.fields s m h]
  exact ⟨rfl, rfl, rfl, rfl, rfl⟩

/-- Settles O52. -/
theorem memoryIsWordStorage : Obligations.MemoryIsWordStorage := readWord_writeWord

/-- Settles O53: equal words are equal bytes, and the bytes fix a canonical list cell by cell. -/
theorem equalContentsAreEqualMemories : Obligations.EqualContentsAreEqualMemories := by
  intro m m' h h' heq
  exact eq_of_byteAt_eq m m' 0 h h' (byteAt_eq_of_readWord_eq h h' heq)

/-- Settles O8: the word fetched is put together from the two bytes, in the decoder's order. -/
theorem stepRunsTheDecodedInstruction : Obligations.StepRunsTheDecodedInstruction := by
  intro s i _ h
  rw [decodeBytes_pair] at h
  obtain ⟨hi, -⟩ := Prod.mk.inj (Except.ok.inj h)
  rw [step, State.fetchWord, readWord_eq_wordOfBytes]
  exact congrArg (exec · s) hi

end Sys2Proof.Machine
end

section
/-! The decoder and the encoder as inverses of each other: the row a compute word is answered as, the terms the naming
rule keeps, and the type bit and the fields of a word in plain arithmetic. -/

namespace Sys2Proof.Machine

/-- The type bit read off the word's number (R60). -/
theorem getLsbD_typeBit_eq_decide (w : Word) : w.getLsbD 15 = decide (0x8000 ≤ w.toNat) :=
  (BitVec.msb_eq_getLsbD_last w).symm.trans (BitVec.msb_eq_decide w)

/-- A word with bit 15 clear is answered as the address-load of its low 15 bits (R60, R61). -/
theorem decodeWord_of_load {w : Word} (h : w.getLsbD 15 = false) : decodeWord w = .aload (w.extractLsb' 0 15) := by
  rw [decodeWord, h]
  rfl

/-- A word with bit 15 set is answered under the row its fields name (R60, R62). -/
theorem decodeWord_of_compute {w : Word} (h : w.getLsbD 15 = true) :
    decodeWord w = nameComp (CompFields.ofWord w) := if_pos h

/-- The compute fields of a decoded word are those the word holds, and only a word with bit 15 set has any. -/
theorem fields_decodeWord_eq_inr_iff (w : Word) (c : CompFields) :
    (decodeWord w).fields = .inr c ↔ w.getLsbD 15 = true ∧ c = CompFields.ofWord w := by
  cases h : w.getLsbD 15 with
  | false => simp [fields_decodeWord_of_load w h]
  | true => simp [fields_decodeWord_of_compute w h, eq_comm]

/-- The word of a literal is answered as its address-load. -/
theorem decodeWord_packLiteral (v : BitVec 15) : decodeWord (packLiteral v) = .aload v := by
  rw [decodeWord_of_load (Laws.TypeBit.of_packLiteral v), extract_packLiteral]

/-- The word of compute fields is answered under the row they name. -/
theorem decodeWord_pack (c : CompFields) : decodeWord c.pack = nameComp c := by
  rw [decodeWord_of_compute (Laws.TypeBit.of_pack c), ofWord_pack]

/-- Bit 12 set is the memory operand (R66). -/
theorem ofBit_eq_mem_iff (b : Bool) : Operand.ofBit b = .mem ↔ b = true := by cases b <;> decide

/-- Only an address-load has a literal (R71). -/
theorem eq_aload_of_literal {i : Instr} {v : BitVec 15} (h : i.fields = .inl v) : i = .aload v := by
  cases i with
  | aload value => exact congrArg _ (Sum.inl.inj h)
  | _ => nomatch h

/-- A nonzero control code names its word (log entry 1). -/
theorem wellFormed_nameCtl (ign : BitVec 2) (a : Operand) {c : Ctl} (d : Dest) (j : Cond) (hc : c ≠ Ctl.zero) :
    WellFormed (nameCtl ign a c d j) := by
  unfold nameCtl
  split
  · exact absurd rfl hc
  all_goals rfl

/-- A destination names its word where every other field is zero (log entry 1). -/
theorem wellFormed_nameDest (ign : BitVec 2) {d : Dest} (hd : d ≠ Dest.nowhere) :
    WellFormed (nameDest ign .regA Ctl.zero d Cond.never) := by
  unfold nameDest
  split
  · exact absurd rfl hd
  all_goals rfl

/-- A condition code names its word where every other field is zero (log entry 1). -/
theorem wellFormed_nameJump (ign : BitVec 2) {j : Cond} (hj : j ≠ Cond.never) :
    WellFormed (nameJump ign .regA Ctl.zero Dest.nowhere j) := by
  unfold nameJump
  split
  · exact absurd rfl hj
  all_goals rfl

/-- The name a word of control code 000000 is answered under is the one the naming rule keeps, in each of the eight
cases of log entry 1. -/
theorem wellFormed_nameZeroCtl (ign : BitVec 2) (a : Operand) (d : Dest) (j : Cond) :
    WellFormed (nameZeroCtl ign a d j) := by
  by_cases hd : d = Dest.nowhere <;> by_cases hj : j = Cond.never
  · subst hd hj
    cases a <;> rfl
  · subst hd
    cases a
    · simpa [nameZeroCtl, hj] using wellFormed_nameJump ign hj
    · simp [nameZeroCtl, WellFormed, Instr.wellFormed, hj]
  · subst hj
    cases a
    · simpa [nameZeroCtl, hd] using wellFormed_nameDest ign hd
    · simp [nameZeroCtl, WellFormed, Instr.wellFormed, hd]
  · cases a <;> simp [nameZeroCtl, WellFormed, Instr.wellFormed, hd, hj]

/-- The name any compute fields are answered under is the one the naming rule keeps. -/
theorem wellFormed_nameComp (c : CompFields) : WellFormed (nameComp c) := by
  unfold nameComp
  split
  · exact wellFormed_nameZeroCtl ..
  · next hc => exact wellFormed_nameCtl _ _ _ _ hc

/-- A term the naming rule keeps is the one its own fields are answered as, family by family of the rows (log
entry 1). -/
theorem nameComp_of_wellFormed {i : Instr} {c : CompFields} (hwf : WellFormed i) (h : i.fields = .inr c) :
    nameComp c = i := by
  cases i with
  | aload => nomatch h
  | comp ign a ctl d j =>
    cases h
    obtain ⟨rfl, rfl, rfl, rfl⟩ : a = .regA ∧ ctl = Ctl.zero ∧ d = Dest.nowhere ∧ j = Cond.never := by
      simpa [WellFormed, Instr.wellFormed, and_assoc] using hwf
    rfl
  | compA0 ign ctl d j =>
    cases h
    obtain ⟨rfl, hd, hj⟩ : ctl = Ctl.zero ∧ d ≠ Dest.nowhere ∧ j ≠ Cond.never := by
      simpa [WellFormed, Instr.wellFormed, and_assoc] using hwf
    simp [nameComp, nameZeroCtl, hd, hj]
  | compA1 ign ctl d j =>
    cases h
    obtain ⟨rfl, rfl, rfl⟩ : ctl = Ctl.zero ∧ d = Dest.nowhere ∧ j = Cond.never := by
      simpa [WellFormed, Instr.wellFormed, and_assoc] using hwf
    rfl
  | compCtl000000 ign a d j =>
    cases h
    obtain ⟨rfl, hd, hj⟩ : a = .mem ∧ d ≠ Dest.nowhere ∧ j ≠ Cond.never := by
      simpa [WellFormed, Instr.wellFormed, and_assoc] using hwf
    simp [nameComp, nameZeroCtl, hd, hj, Ctl.zero]
  | compDest000 ign a ctl j =>
    cases h
    obtain ⟨rfl, rfl, hj⟩ : a = .mem ∧ ctl = Ctl.zero ∧ j ≠ Cond.never := by
      simpa [WellFormed, Instr.wellFormed, and_assoc] using hwf
    simp [nameComp, nameZeroCtl, hj, Dest.nowhere]
  | compJump000 ign a ctl d =>
    cases h
    obtain ⟨rfl, rfl, hd⟩ : a = .mem ∧ ctl = Ctl.zero ∧ d ≠ Dest.nowhere := by
      simpa [WellFormed, Instr.wellFormed, and_assoc] using hwf
    simp [nameComp, nameZeroCtl, hd, Cond.never]
  | compDest001 ign a ctl j | compDest010 ign a ctl j | compDest011 ign a ctl j | compDest100 ign a ctl j
  | compDest101 ign a ctl j | compDest110 ign a ctl j | compDest111 ign a ctl j =>
    cases h
    obtain ⟨rfl, rfl, rfl⟩ : a = .regA ∧ ctl = Ctl.zero ∧ j = Cond.never := by
      simpa [WellFormed, Instr.wellFormed, and_assoc] using hwf
    rfl
  | compJump001 ign a ctl d | compJump010 ign a ctl d | compJump011 ign a ctl d | compJump100 ign a ctl d
  | compJump101 ign a ctl d | compJump110 ign a ctl d | compJump111 ign a ctl d =>
    cases h
    obtain ⟨rfl, rfl, rfl⟩ : a = .regA ∧ ctl = Ctl.zero ∧ d = Dest.nowhere := by
      simpa [WellFormed, Instr.wellFormed, and_assoc] using hwf
    rfl
  | _ =>
    cases h
    rfl

/-- A field one bit longer is its new top bit over the shorter field. -/
theorem toNat_extractLsb'_succ (w : Word) (s n : Nat) :
    (w.extractLsb' s (n + 1)).toNat = (w.getLsbD (s + n)).toNat * 2 ^ n + (w.extractLsb' s n).toNat := by
  rw [BitVec.extractLsb'_toNat, BitVec.extractLsb'_toNat, Nat.mod_pow_succ, BitVec.getLsbD, Nat.toNat_testBit,
    Nat.pow_add, Nat.shiftRight_eq_div_pow, Nat.div_div_eq_div_mul]
  ring

/-- Two words with one low field have the same bits in it. -/
theorem getLsbD_eq_of_extractLsb'_eq {w w' : Word} {n : Nat} (h : w.extractLsb' 0 n = w'.extractLsb' 0 n) (k : Nat)
    (hk : k < n) : w.getLsbD k = w'.getLsbD k := by
  simpa [hk] using congrArg (BitVec.getLsbD · k) h

/-- Two words with the same low 13 bits differ in the ignored field alone (R67). -/
theorem ofWord_eq_of_low_bits {w w' : Word} (h : w.extractLsb' 0 13 = w'.extractLsb' 0 13) :
    CompFields.ofWord w' = { CompFields.ofWord w with ign := w'.extractLsb' 13 2 } := by
  simp (disch := omega) only [CompFields.ofWord, getLsbD_eq_of_extractLsb'_eq h]

end Sys2Proof.Machine
end

section
/-! The network's tick of a compute word, for any ALU, as the next state R127 gives, and the words that ask for nothing
but the next PC. -/

namespace Sys2Proof.Machine

/-- A word with bits 5 to 0 clear has no destination and the condition code that never jumps (R131, R153). -/
theorem ofWord_dest_cond_of_low_zero {w : Word} (h : w.extractLsb' 0 6 = 0) :
    (CompFields.ofWord w).dest = Dest.nowhere ∧ (CompFields.ofWord w).cond = Cond.never := by
  have hbit (k : Nat) (hk : k < 6) : w.getLsbD k = false :=
    (getLsbD_eq_of_extractLsb'_eq (w' := 0) h k hk).trans BitVec.getLsbD_zero
  simp (disch := omega) only [CompFields.ofWord, hbit]
  exact ⟨rfl, rfl⟩

/-- The second operand as the network selects it by bit 12 (R92). -/
theorem secondOperand_ofBit (s : State) (b : Bool) :
    Claims.secondOperand s (Operand.ofBit b) = if b then Memory.readWord s.dm (lowAddr s.a) else s.a := by
  cases b <;> rfl

/-- The next PC as the network computes it (R100, R110). -/
theorem pcAfter_eq_network (s : State) (jump : Bool) :
    Claims.pcAfter s jump =
      if s.resetLine then 0 else if jump then s.a.extractLsb' 0 15 else BitVec.ofNat 15 (s.pc.toNat + 1) := by
  rw [← nextPc_eq_pcAfter, State.nextPc, BitVec.ofNat_add, BitVec.ofNat_toNat, BitVec.setWidth_eq]
  rfl

/-- The tick of the network on a word with bit 15 set, for any ALU (R110, R127). -/
theorem tick_of_compute (alu : Alu) (s : State) (h : s.fetchWord.getLsbD 15 = true) :
    s.tick alu = Claims.afterCompute s
      (alu s.d (Claims.secondOperand s (CompFields.ofWord s.fetchWord).a) (CompFields.ofWord s.fetchWord).ctl)
      (CompFields.ofWord s.fetchWord).dest (CompFields.ofWord s.fetchWord).cond := by
  rw [State.fetchWord] at h ⊢
  simp only [State.tick, State.signals, combinational, h, Claims.afterCompute, Claims.afterResult, CompFields.ofWord,
    branchEval_true_eq_condMet, secondOperand_ofBit, pcAfter_eq_network, Bool.true_and, Bool.not_true, Bool.false_or,
    if_true]
  rfl

/-- A compute instruction with no destination and condition code 000 moves PC by the default rule and changes nothing
else, whatever the ALU answers (R131, R153). -/
theorem afterCompute_nowhere_never (s : State) (r : AluOut) :
    Claims.afterCompute s r Dest.nowhere Cond.never =
      { s with pc := Claims.pcAfter s false, resetIn := s.resetIn.tail } := rfl

end Sys2Proof.Machine
end

section
/-! The encoding family: decoding and encoding as inverses, the type bit and the fields where R62 puts them, and what
does not depend on a word's name or on its ignored bits. -/

namespace Sys2Proof.Machine

/-- Settles O1: a literal is read back as packed, and packed compute fields are answered under the row the naming rule
keeps. -/
theorem everyInstructionDecodesFromItsWord : Obligations.EveryInstructionDecodesFromItsWord := by
  intro i hwf
  cases hf : i.fields with
  | inl v => rw [encode_of_literal hf, decodeWord_packLiteral, eq_aload_of_literal hf]
  | inr c => rw [encode_of_compFields hf, decodeWord_pack, nameComp_of_wellFormed hwf hf]

/-- Settles O2, format by format: the fields read from a word pack to the word, and the name keeps the fields. -/
theorem everyWordIsAnInstruction : Obligations.EveryWordIsAnInstruction := by
  intro w
  cases h : w.getLsbD 15 with
  | false =>
    rw [decodeWord_of_load h]
    exact ⟨rfl, packLiteral_extract w h⟩
  | true =>
    rw [decodeWord_of_compute h]
    exact ⟨wellFormed_nameComp _, (encode_of_compFields (fields_nameComp _)).trans (pack_ofWord w h)⟩

/-- Settles O3: the two ranges of a word's number are the two values of its type bit. -/
theorem typeBitAloneTellsTheFormats : Obligations.TypeBitAloneTellsTheFormats := by
  intro w
  constructor
  · intro hlt
    have h : w.getLsbD 15 = false := by
      rw [getLsbD_typeBit_eq_decide]
      exact decide_eq_false (by omega)
    exact decodeWord_of_load h
  · intro hge
    have h : w.getLsbD 15 = true := (getLsbD_typeBit_eq_decide w).trans (decide_eq_true hge)
    exact ⟨_, fields_decodeWord_of_compute w h⟩

/-- Settles O4: the decoded fields are those read from the word, and a field as a number is the sum over its bits. -/
theorem computeFieldsStandWhereTheTablePutsThem : Obligations.ComputeFieldsStandWhereTheTablePutsThem := by
  intro w c hc
  obtain ⟨-, rfl⟩ := (fields_decodeWord_eq_inr_iff w c).mp hc
  refine ⟨ofBit_eq_mem_iff _, ?_, ?_, ?_, rfl⟩
  all_goals
    simp only [CompFields.ofWord, toNat_extractLsb'_succ, BitVec.toNat_of_zero_length, Nat.reduceAdd]
    omega

/-- Settles O6: equal words decode to equal fields, and an effect depends on the fields alone. -/
theorem sameWordSameEffect : Obligations.SameWordSameEffect := by
  intro i j s h
  have hfields : i.fields = j.fields := by
    rw [← fields_decodeWord_encode i, h, fields_decodeWord_encode]
  exact exec_eq_of_fields_eq hfields s

/-- Settles O7: the two words' fields differ in `ign` alone, which no effect reads. -/
theorem ignoredBitsChangeNothing : Obligations.IgnoredBitsChangeNothing := by
  intro w w' s hw hw' hlow
  refine ⟨_, exec_of_compFields (fields_decodeWord_of_compute w hw) s, ?_⟩
  rw [exec_of_compFields (fields_decodeWord_of_compute w' hw') s, ofWord_eq_of_low_bits hlow]

/-- Settles O46: the network's tick and the step are both the compute instruction's next state, whose destination and
condition fields are zero. -/
theorem wordsThatOnlyAdvance : Obligations.WordsThatOnlyAdvance := by
  intro alu s h15 hlow
  obtain ⟨hdest, hcond⟩ := ofWord_dest_cond_of_low_zero hlow
  rw [step_of_compute s h15, tick_of_compute alu s h15, State.fetchWord, hdest, hcond, afterCompute_nowhere_never,
    afterCompute_nowhere_never]
  exact ⟨rfl, rfl⟩

/-- Settles O5, word by word. -/
theorem wordsOfTheSpecDecode : Obligations.WordsOfTheSpecDecode :=
  ⟨rfl, rfl, rfl, rfl, rfl, rfl, rfl, rfl⟩

end Sys2Proof.Machine
end

section
/-! The stand-alone adder as arithmetic: a word as the number its two bytes make, and the two chained stages as one
exact 17-bit sum. -/

namespace Sys2Proof.Machine

/-- The sum byte and the carry-out of a stage are the remainder and the quotient of a sum below 512 by 256 (R80). -/
theorem add8c_exact (a b : Byte) (c : Bool) :
    (add8c a b c).s.toNat + 256 * (add8c a b c).k.toNat = a.toNat + b.toNat + c.toNat := by
  have ha := a.isLt
  have hb := b.isLt
  have hc := c.toNat_lt
  simp only [add8c, BitVec.toNat_ofNat]
  by_cases hcarry : 256 ≤ a.toNat + b.toNat + c.toNat
  · simp only [hcarry, decide_true, Bool.toNat_true]
    omega
  · simp only [hcarry, decide_false, Bool.toNat_false]
    omega

/-- The high byte weighs 256. -/
theorem toNat_wordOfBytes (lo hi : Byte) : (wordOfBytes lo hi).toNat = lo.toNat + 256 * hi.toNat := by
  rw [wordOfBytes, BitVec.toNat_append, ← Nat.shiftLeft_add_eq_or_of_lt lo.isLt, Nat.shiftLeft_eq]
  omega

/-- A word's number from its own two bytes. -/
theorem toNat_eq_bytes (w : Word) : w.toNat = (w.extractLsb' 0 8).toNat + 256 * (w.extractLsb' 8 8).toNat := by
  rw [← toNat_wordOfBytes, wordOfBytes_bytesOfWord]

/-- Sum and carry together are the exact sum: the low stage's carry-out cancels between the two stages' contracts
(R81, R82). -/
theorem add16c_exact (a b : Word) (c : Bool) :
    (add16c a b c).sum.toNat + 65536 * (add16c a b c).carry.toNat = a.toNat + b.toNat + c.toNat := by
  have hlow := add8c_exact (a.extractLsb' 0 8) (b.extractLsb' 0 8) c
  have hhigh := add8c_exact (a.extractLsb' 8 8) (b.extractLsb' 8 8)
    (add8c (a.extractLsb' 0 8) (b.extractLsb' 0 8) c).k
  change (wordOfBytes _ _).toNat + 65536 * (add8c _ _ _).k.toNat = _
  rw [toNat_wordOfBytes, toNat_eq_bytes a, toNat_eq_bytes b]
  omega

/-- The sum bits alone are the sum of the operands and the carry-in as 16-bit words (R82). -/
theorem add16c_sum (a b : Word) (c : Bool) : (add16c a b c).sum = a + b + BitVec.ofNat 16 c.toNat := by
  have hexact := add16c_exact a b c
  apply BitVec.eq_of_toNat_eq
  simp only [BitVec.toNat_add, BitVec.toNat_ofNat]
  omega

/-- The carry is 1 exactly when the sum of the operands and the carry-in does not fit in 16 bits (R82). -/
theorem add16c_carry_iff (a b : Word) (c : Bool) :
    (add16c a b c).carry = true ↔ 65536 ≤ a.toNat + b.toNat + c.toNat := by
  have hexact := add16c_exact a b c
  have hcarry := (add16c a b c).carry.toNat_lt
  rw [← Bool.toNat_eq_one]
  omega

/-- A word read as signed is congruent to its unsigned number modulo 2^16 (R83). -/
theorem toInt_emod (w : Word) : w.toInt % 65536 = w.toNat := by
  have hw := w.isLt
  rw [BitVec.toInt_eq_toNat_cond]
  split <;> omega

end Sys2Proof.Machine
end

section
/-! The adder family: the stage's contract, the 17-bit law, the signed reading, and the uses of the carry. -/

namespace Sys2Proof.Machine

/-- Settles O34: the one equation of the stage. -/
theorem adderStageContract : Obligations.AdderStageContract := add8c_exact

/-- Settles O35: the exact sum below 2^17 fixes its low 16 bits and its top bit. -/
theorem carryAdderLaw : Obligations.CarryAdderLaw := by
  intro a b c
  have hexact := add16c_exact a b c
  exact ⟨by omega, add16c_carry_iff a b c, hexact⟩

/-- Settles O36: each of the three words is congruent to its unsigned number. -/
theorem carryAdderSignedReading : Obligations.CarryAdderSignedReading := by
  refine ⟨fun a b c => ?_, rfl, rfl⟩
  have hexact := add16c_exact a b c
  have hsum := toInt_emod (add16c a b c).sum
  have ha := toInt_emod a
  have hb := toInt_emod b
  omega

/-- Settles O37: the complement plus one is the negation, and the exact sums of the two halves add up with the carry
between them cancelled. -/
theorem carryAdderUses : Obligations.CarryAdderUses := by
  refine ⟨fun a b => ⟨?_, ?_, ?_⟩, fun al ah bl bh c => ?_⟩
  · rw [add16c_sum]
    exact congrArg (· + 1) (BitVec.add_zero a)
  · rw [add16c_sum, BitVec.add_assoc, BitVec.sub_eq_add_neg, BitVec.neg_eq_not_add]
    rfl
  · rw [add16c_carry_iff, BitVec.toNat_not, Bool.toNat_true]
    omega
  · have hlow := add16c_exact al bl c
    have hhigh := add16c_exact ah bh (add16c al bl c).carry
    omega

end Sys2Proof.Machine
end

section
/-! The network's tick of an address-load's word, for any ALU, as the next state R120 gives, the network's tick as the
machine's step, and the last state of a run of any length. -/

namespace Sys2Proof.Machine

/-- Widening a literal by a zero bit gives the address-load's own word (R61, R68). -/
theorem zextWord_eq_packLiteral (v : BitVec 15) : zextWord v = packLiteral v :=
  BitVec.setWidth_eq_append (by decide)

/-- The literal below a zero bit is the whole word when its type bit is clear (R96). -/
theorem zero_append_extractLsb' {w : Word} (h : w.getLsbD 15 = false) : 0#1 ++ w.extractLsb' 0 15 = w :=
  packLiteral_extract w h

/-- No condition code makes an address-load jump (R99). -/
theorem branchEval_false (j : Cond) (zero negative : Bool) : branchEval false j zero negative = false := rfl

/-- The tick of the network on a word with bit 15 clear: the ALU's answer reaches nothing (R110, R120, R122). -/
theorem tick_of_load (alu : Alu) (s : State) (h : s.fetchWord.getLsbD 15 = false) :
    s.tick alu = { s with
      a := zextWord (s.fetchWord.extractLsb' 0 15), pc := Claims.pcAfter s false, resetIn := s.resetIn.tail } := by
  rw [zextWord_eq_packLiteral, packLiteral_extract _ h, pcAfter_eq_network]
  rw [State.fetchWord] at h ⊢
  simp only [State.tick, State.signals, combinational, h, branchEval_false, Bool.false_and, Bool.not_false, Bool.true_or,
    if_true, Bool.false_eq_true, if_false, zero_append_extractLsb' h]

/-- A tick of the machine is a tick of the network, format by format. -/
theorem step_eq_tick (s : State) : step s = .next (s.tick cpuAlu) := by
  cases h : s.fetchWord.getLsbD 15 with
  | false => rw [step_of_load s h, tick_of_load cpuAlu s h]
  | true => rw [step_of_compute s h, tick_of_compute cpuAlu s h]

/-- A run of any length has a last state (R265, R290). -/
theorem exists_runsTo (n : Nat) (s : State) : ∃ t, RunsTo n s t := by
  induction n generalizing s with
  | zero => exact ⟨s, (runsTo_zero_iff s s).mpr rfl⟩
  | succ n ih =>
    obtain ⟨t, hrest⟩ := ih (s.commit (effectOf (decodeWord s.fetchWord).fields s))
    exact ⟨t, (runsTo_succ_iff n s t).mpr ⟨_, step_eq_commit s, hrest⟩⟩

end Sys2Proof.Machine
end

section
/-! The step family: the machine and the network as two descriptions of one tick, for the wired ALU and for any, the
network's control signals, and that nothing stops the machine. -/

namespace Sys2Proof.Machine

/-- Settles O11: in both formats the step and the network's tick leave one next state. -/
theorem instructionsAreTheNetworksCases : Obligations.InstructionsAreTheNetworksCases := step_eq_tick

/-- Settles O12: the network's tick in each format, its literal or fields being read back as packed. -/
theorem instructionsForEveryAlu : Obligations.InstructionsForEveryAlu := by
  intro alu s
  refine ⟨fun v hw => ?_, fun c hw => ?_⟩
  · change s.fetchWord = packLiteral v at hw
    have h : s.fetchWord.getLsbD 15 = false := hw ▸ Laws.TypeBit.of_packLiteral v
    rw [tick_of_load alu s h, hw, extract_packLiteral]
    exact exec_of_literal (i := .aload v) rfl s
  · change s.fetchWord = c.pack at hw
    have h : s.fetchWord.getLsbD 15 = true := hw ▸ Laws.TypeBit.of_pack c
    rw [tick_of_compute alu s h, hw, ofWord_pack]

/-- Settles O13: every instruction is one commit, and a run has a last state, which no fault and no refusal is. -/
theorem noInstructionStops : Obligations.NoInstructionStops := by
  refine ⟨fun i s => ⟨_, exec_eq_commit i s⟩, fun s => ⟨_, step_eq_commit s⟩, fun n s => ?_⟩
  obtain ⟨t, hrun⟩ := exists_runsTo n s
  exact ⟨fun _ hf => (nomatch hrun.symm.trans hf), fun _ hr => (nomatch hrun.symm.trans hr)⟩

/-- Settles O38: each signal is read off the network, and the two formats decide A's next value and the jump. -/
theorem networkControlSignals : Obligations.NetworkControlSignals := by
  intro alu w m reset a d pc g
  refine ⟨?_, rfl, rfl, fun h => ⟨?_, ?_⟩, fun h => ?_, BitVec.extractLsb'_toNat .., fun _ => rfl⟩
  · change (!w.getLsbD 15 || w.getLsbD 15 && w.getLsbD 5) = _
    cases w.getLsbD 15 <;> rfl
  · simp only [g, combinational, h]
    exact zero_append_extractLsb' h
  · simp only [g, combinational, h, branchEval_false]
  · simp only [g, combinational, h, if_true]

end Sys2Proof.Machine
end

section
/-! A loaded literal as a number, as an address and as a jump target. -/

namespace Sys2Proof.Machine

/-- Widening a literal keeps its number (R68). -/
theorem zextWord_eq_ofNat (v : BitVec 15) : zextWord v = BitVec.ofNat 16 v.toNat :=
  (BitVec.ofNat_toNat 16 v).symm

@[simp] theorem toNat_zextWord (v : BitVec 15) : (zextWord v).toNat = v.toNat :=
  BitVec.toNat_setWidth_of_le (by decide)

/-- The address in a widened literal is the literal (R121). -/
@[simp] theorem lowAddr_zextWord (v : BitVec 15) : lowAddr (zextWord v) = v := by
  rw [zextWord_eq_packLiteral]
  exact extract_packLiteral v

/-- Condition code 111 is met by every pair of flags, also by one no flag law allows (R160). -/
theorem condMet_always (r : AluOut) : Claims.condMet Cond.always r = true := by
  obtain ⟨out, zero, negative⟩ := r
  cases zero <;> cases negative <;> rfl

/-- Without reset, a taken jump goes to the old A[14:0] (R152). -/
theorem pcAfter_of_jump (s : State) (h : s.resetIn.head? ≠ some true) : Claims.pcAfter s true = lowAddr s.a := by
  rw [← nextPc_eq_pcAfter]
  exact nextPc_of_jump s (Bool.eq_false_of_not_eq_true fun hr => h ((resetLine_eq_true_iff s).mp hr))

/-- Without reset, an unconditional jump goes to A[14:0], whatever its other fields ask (R160, R279). -/
theorem exec_compJump111_pc (ign : BitVec 2) (a : Operand) (c : Ctl) (d : Dest) (s : State)
    (h : s.resetIn.head? ≠ some true) : ∃ u, exec (.compJump111 ign a c d) s = .next u ∧ u.pc = lowAddr s.a := by
  refine ⟨_, exec_of_compFields (c := ⟨ign, a, c, d, Cond.always⟩) rfl s, ?_⟩
  rw [← pcAfter_of_jump s h, Claims.afterCompute, condMet_always]
  rfl

end Sys2Proof.Machine
end

section
/-! The address-load family: its whole next state and bus signals, the use of the loaded A by the next instruction, and
its frame. -/

namespace Sys2Proof.Machine

/-- Settles O16: the loaded A is the widened literal, whose number and address are the literal's own. -/
theorem loadedAddressIsUsableAtOnce : Obligations.LoadedAddressIsUsableAtOnce := by
  intro v s
  refine ⟨_, exec_of_literal (i := .aload v) rfl s, lowAddr_zextWord v, toNat_zextWord v, ?_, fun hreset ign a c d => ?_⟩
  · exact congrArg (Memory.readWord s.dm) (lowAddr_zextWord v)
  · obtain ⟨u, hu, hpc⟩ := exec_compJump111_pc ign a c d _ hreset
    exact ⟨u, hu, hpc.trans (lowAddr_zextWord v)⟩

/-- Settles O15: the address-load's next state, and its word's clear type bit, which keeps the store signal low. -/
theorem addressLoadEffect : Obligations.AddressLoadEffect := by
  intro v s
  refine ⟨?_, fun alu m reset => ⟨?_, rfl⟩⟩
  · rw [← zextWord_eq_ofNat]
    exact exec_of_literal (i := .aload v) rfl s
  · have htype : (encode (.aload v)).getLsbD 15 = false := Laws.TypeBit.aload v
    simp only [combinational, htype, Bool.false_and]

/-- Settles O39: the address-load's next state replaces A, PC and the reset schedule alone. -/
theorem addressLoadFrame : Obligations.AddressLoadFrame := by
  intro v s t h
  obtain rfl := Host.Outcome.next.inj ((exec_of_literal (i := .aload v) rfl s).symm.trans h)
  exact ⟨rfl, fun _ => rfl, rfl, rfl⟩

end Sys2Proof.Machine
end

section
/-! A compute instruction as its destination and condition fields ask: the address in A as a number, the network's
signals for the destination flags, the bytes a compute instruction keeps, and the taken jump. -/

namespace Sys2Proof.Machine

/-- The address in a word is the word's number modulo 2^15 (R41). -/
theorem lowAddr_eq_ofNat (w : Word) : lowAddr w = BitVec.ofNat 15 w.toNat := by
  rw [BitVec.ofNat_toNat, BitVec.setWidth_eq_extractLsb' (by decide)]
  rfl

/-- The load and write signals of a compute instruction's word are its destination flags, for any ALU (R94, R106). -/
theorem destination_signals {i : Instr} {c : CompFields} (h : i.fields = .inr c) (alu : Alu) (m : Word) (reset : Bool)
    (a d : Word) (pc : Addr) :
    (combinational alu (encode i) m reset a d pc).loadAFromAlu = c.dest.dA ∧
      (combinational alu (encode i) m reset a d pc).loadA = c.dest.dA ∧
      (combinational alu (encode i) m reset a d pc).loadD = c.dest.dD ∧
      (combinational alu (encode i) m reset a d pc).memoryWrite = c.dest.dM := by
  have htype : (encode i).getLsbD 15 = true := encode_of_compFields h ▸ Laws.TypeBit.of_pack c
  have hdest : c.dest = (CompFields.ofWord (encode i)).dest := by rw [encode_of_compFields h, ofWord_pack]
  obtain ⟨hA, hD, hM, -⟩ := networkControlSignals alu (encode i) m reset a d pc
  rw [hA, hD, hM, hdest, htype]
  refine ⟨?_, rfl, rfl, rfl⟩
  simp only [combinational, htype, Bool.true_and, CompFields.ofWord]

/-- A compute instruction leaves every byte but the two of the word at the old A[14:0] (R49, R130). -/
theorem byteAt_afterCompute_dm_of_ne (s : State) (r : AluOut) (d : Dest) (j : Cond) (k : Nat)
    (hlo : k ≠ Memory.lowByteAddr s.memAddr) (hhi : k ≠ Memory.lowByteAddr s.memAddr + 1) :
    Memory.byteAt (Claims.afterCompute s r d j).dm k = Memory.byteAt s.dm k := by
  cases hM : d.dM with
  | false => rw [afterCompute_dm_of_not_dM s r d j hM]
  | true =>
    simp only [Claims.afterCompute, Claims.afterResult, hM, if_true]
    exact byteAt_writeWord_of_ne s.dm _ r.out k hlo hhi

/-- Without reset, a compute instruction with condition code 111 goes to the old A[14:0], also when it loads A (R160,
R280). -/
theorem afterCompute_pc_of_always (s : State) (r : AluOut) (d : Dest) (h : s.resetIn.head? ≠ some true) :
    (Claims.afterCompute s r d Cond.always).pc = lowAddr s.a := by
  rw [← pcAfter_of_jump s h, Claims.afterCompute, condMet_always]
  rfl

end Sys2Proof.Machine
end

section
/-! The compute family: the whole next state of a compute instruction, its operand select, its destinations, its frame,
and the old A as address and target. -/

namespace Sys2Proof.Machine

/-- Settles O17: the row whose fields are all operands (`computeEffect` itself names a function of the model). -/
theorem computeEffect_holds : Obligations.ComputeEffect := fun ign a c d j s =>
  exec_of_compFields (i := .comp ign a c d j) rfl s

/-- Settles O18: the two second operands of R92, the memory one read at A modulo 2^15. -/
theorem operandSelectEffect : Obligations.OperandSelectEffect := by
  intro ign c d j s
  constructor
  · exact exec_of_compFields (i := .compA0 ign c d j) rfl s
  · rw [← lowAddr_eq_ofNat]
    exact exec_of_compFields (i := .compA1 ign c d j) rfl s

/-- Settles O19: the next state of each format, and the signals its word drives. -/
theorem destinationFlags : Obligations.DestinationFlags := by
  refine ⟨fun i c s h => ⟨⟨_, exec_of_compFields h s, rfl, rfl, rfl⟩, fun alu m reset => ?_⟩,
    fun v s => ⟨⟨_, exec_of_literal (i := .aload v) rfl s, rfl, rfl⟩, fun alu m reset => ?_⟩⟩
  · obtain ⟨hfromAlu, hA, hD, hM⟩ := destination_signals h alu m reset s.a s.d s.pc
    exact ⟨hfromAlu, hA, hD, hM, rfl, fun _ => rfl⟩
  · have htype : (encode (.aload v)).getLsbD 15 = false := Laws.TypeBit.aload v
    obtain ⟨-, hD, hM, -⟩ := networkControlSignals alu (encode (.aload v)) m reset s.a s.d s.pc
    rw [hD, hM, htype]
    exact ⟨rfl, rfl⟩

/-- Settles O20: each row is the one next state of R127, its destination field spelled out. -/
theorem destinationRows : Obligations.DestinationRows := by
  intro ign a c j s r p
  have hrow (i : Instr) (d : Dest) (h : i.fields = .inr ⟨ign, a, c, d, j⟩) :
      exec i s = .next (Claims.afterCompute s r d j) := exec_of_compFields h s
  exact ⟨hrow _ ⟨false, false, false⟩ rfl, hrow _ ⟨false, false, true⟩ rfl, hrow _ ⟨false, true, false⟩ rfl,
    hrow _ ⟨false, true, true⟩ rfl, hrow _ ⟨true, false, false⟩ rfl, hrow _ ⟨true, false, true⟩ rfl,
    hrow _ ⟨true, true, false⟩ rfl, hrow _ ⟨true, true, true⟩ rfl⟩

/-- Settles O40: what is not named by a destination flag is as it was, byte by byte in the data memory. -/
theorem computeFrame : Obligations.ComputeFrame := by
  intro i c s t hf h
  obtain rfl := Host.Outcome.next.inj ((exec_of_compFields hf s).symm.trans h)
  refine ⟨afterCompute_a_of_not_dA s _ _ _, afterCompute_d_of_not_dD s _ _ _, fun hM k => ?_,
    byteAt_afterCompute_dm_of_ne s _ _ _, rfl, rfl⟩
  rw [afterCompute_dm_of_not_dM s _ _ _ hM]

/-- Settles O45: the store and the jump read the A of before the commit, the new A is the result. -/
theorem oldAddressEverywhere : Obligations.OldAddressEverywhere := by
  intro i c s hf hA hM hcond hreset
  refine ⟨_, exec_of_compFields hf s, ?_⟩
  rw [← lowAddr_eq_ofNat, hcond]
  refine ⟨?_, ?_, afterCompute_pc_of_always s _ _ hreset⟩
  · simp only [Claims.afterCompute, Claims.afterResult, hA, if_true]
  · simp only [Claims.afterCompute, Claims.afterResult, hA, hM, if_true]

end Sys2Proof.Machine
end

section
/-! The flags of an ALU that obeys the flag law as the sign of its result, the condition codes read by that sign, and
the next state of a compute instruction with its jump decided by the signed result. -/

namespace Sys2Proof.Machine

/-- A word is 0 exactly when its signed number is. -/
theorem toInt_eq_zero_iff (r : Word) : r.toInt = 0 ↔ r = 0 := BitVec.toInt_inj (y := 0#16)

/-- Bit 15 of a word is its sign (R171). -/
theorem getLsbD_signBit_eq_decide (r : Word) : r.getLsbD 15 = decide (r.toInt < 0) :=
  (BitVec.msb_eq_getLsbD_last r).symm.trans BitVec.msb_eq_toInt

/-- The ALU the CPU is wired to obeys the flag law (R171, R173). -/
theorem flagLaw_cpuAlu : cpuAlu.FlagLaw := fun x y c => ⟨beq_eq_decide (refAluResult x y c) 0, rfl⟩

/-- Under the flag law, each flag is one sign class of the result (R171). -/
theorem flags_eq_sign {alu : Alu} (hlaw : alu.FlagLaw) (x y : Word) (c : Ctl) :
    (alu x y c).zero = decide ((alu x y c).out.toInt = 0) ∧
      (alu x y c).negative = decide ((alu x y c).out.toInt < 0) := by
  obtain ⟨hzero, hneg⟩ := hlaw x y c
  exact ⟨hzero.trans (decide_eq_decide.mpr (toInt_eq_zero_iff _).symm), hneg.trans (getLsbD_signBit_eq_decide _)⟩

/-- A number above 0 is one that is neither 0 nor below it. -/
theorem decide_pos_eq_neither (n : Int) : decide (0 < n) = (!decide (n = 0) && !decide (n < 0)) := by
  rw [← decide_not, ← decide_not, ← Bool.decide_and, decide_eq_decide]
  omega

/-- Under the flag law, deciding the jump by the flags is deciding it by the signed result (R150, R171). -/
theorem condMet_eq_signMet {alu : Alu} (hlaw : alu.FlagLaw) (j : Cond) (x y : Word) (c : Ctl) :
    Claims.condMet j (alu x y c) = Claims.signMet j (alu x y c).out := by
  obtain ⟨hzero, hneg⟩ := flags_eq_sign hlaw x y c
  rw [Claims.condMet, Claims.signMet, hzero, hneg, decide_pos_eq_neither, Bool.and_assoc j.j0]

/-- The whole next state of every compute instruction, its jump decided by the signed result (R127, R153 to R160). -/
theorem exec_eq_afterSigned {i : Instr} {c : CompFields} (h : i.fields = .inr c) (s : State) :
    exec i s =
      .next (Claims.afterSigned s (cpuAlu s.d (Claims.secondOperand s c.a) c.ctl).out c.dest c.cond) := by
  rw [exec_of_compFields h, Claims.afterCompute, condMet_eq_signMet flagLaw_cpuAlu]
  rfl

/-- A condition code decides the disjunction of the sign classes its bits select (R153 to R160). -/
theorem signMet_eq_decide {j : Cond} {r : Word} {p : Prop} [Decidable p]
    (h : (j.j2 = true ∧ r.toInt < 0) ∨ (j.j1 = true ∧ r.toInt = 0) ∨ (j.j0 = true ∧ 0 < r.toInt) ↔ p) :
    Claims.signMet j r = decide p := by
  rw [Bool.eq_iff_iff, decide_eq_true_iff, ← h]
  simp only [Claims.signMet, Bool.or_eq_true, Bool.and_eq_true, decide_eq_true_eq, or_assoc]

/-- A compute instruction's jump is taken exactly when the evaluator's disjunction holds (R150). -/
theorem branchEval_true_iff (j : Cond) (z n : Bool) :
    branchEval true j z n = true ↔
      (j.j2 = true ∧ n = true) ∨ (j.j1 = true ∧ z = true) ∨ (j.j0 = true ∧ z = false ∧ n = false) := by
  simp only [branchEval, Bool.true_and, Bool.or_eq_true, Bool.and_eq_true, Bool.not_eq_true', or_assoc]

end Sys2Proof.Machine
end

section
/-! The branch family: the eight condition rows by the sign of the result, and the branch evaluator on the flags. -/

namespace Sys2Proof.Machine

/-- Settles O21: a row's condition is the disjunction of the sign classes its three bits select. -/
theorem conditionRows : Obligations.ConditionRows := by
  intro ign a c d s r
  have hrow (i : Instr) (j : Cond) (p : Prop) [Decidable p] (hf : i.fields = .inr ⟨ign, a, c, d, j⟩)
      (hp : (j.j2 = true ∧ r.toInt < 0) ∨ (j.j1 = true ∧ r.toInt = 0) ∨ (j.j0 = true ∧ 0 < r.toInt) ↔ p) :
      exec i s = .next (Claims.afterResult s r d (decide p)) :=
    signMet_eq_decide hp ▸ exec_eq_afterSigned hf s
  refine ⟨hrow _ ⟨false, false, false⟩ False rfl ?never, hrow _ ⟨false, false, true⟩ _ rfl ?pos,
    hrow _ ⟨false, true, false⟩ _ rfl ?zero, hrow _ ⟨false, true, true⟩ _ rfl ?nonneg,
    hrow _ ⟨true, false, false⟩ _ rfl ?neg, hrow _ ⟨true, false, true⟩ _ rfl ?nonzero,
    hrow _ ⟨true, true, false⟩ _ rfl ?nonpos, hrow _ ⟨true, true, true⟩ True rfl ?always⟩
  case never | pos | neg => simp
  case zero | nonzero => simp [toInt_eq_zero_iff]
  case nonneg => simp [le_iff_eq_or_lt, eq_comm]
  case nonpos => simp [le_iff_lt_or_eq]
  case always => simp [lt_trichotomy]

/-- Settles O32: code 111 is met by every pair of flags, and code 000 by none. -/
theorem branchEvaluatorTable : Obligations.BranchEvaluatorTable := by
  refine ⟨branchEval_false, branchEval_true_iff, fun z n => ⟨rfl, ?_⟩⟩
  exact (branchEval_true_eq_condMet Cond.always ⟨0, z, n⟩).trans (condMet_always _)

end Sys2Proof.Machine
end

section
/-! The reference ALU as R175's table: its inputs as conditioned, its two functions, and the complement of either, and
the next state of a compute instruction with the table's value as its result. -/

namespace Sys2Proof.Machine

@[simp] theorem conditionInput_plain (v : Word) : conditionInput v false false = v := rfl
@[simp] theorem conditionInput_complemented (v : Word) : conditionInput v false true = ~~~v := rfl
@[simp] theorem conditionInput_zeroed (v : Word) : conditionInput v true false = 0 := rfl
@[simp] theorem conditionInput_zeroed_complemented (v : Word) : conditionInput v true true = -1 :=
  (by decide : ~~~(0 : Word) = -1)

/-- The complement in the arithmetic of words (R175). -/
theorem not_eq_neg_sub_one (v : Word) : ~~~v = -v - 1 := by
  rw [BitVec.neg_eq_not_add]
  exact (BitVec.add_sub_cancel ..).symm

/-- -1 is the word of ones, which the conjunction drops. -/
theorem neg_one_and (v : Word) : -1#16 &&& v = v := BitVec.allOnes_and

theorem and_neg_one (v : Word) : v &&& -1#16 = v := BitVec.and_allOnes

/-- The function R175's table gives each control code. -/
def aluTable (x y : Word) : Ctl → Word
  | ⟨false, false, false, false, false, false⟩ => x &&& y
  | ⟨false, false, false, false, false, true⟩ => ~~~(x &&& y)
  | ⟨false, false, false, false, true, false⟩ => x + y
  | ⟨false, false, false, false, true, true⟩ => -x - y - 1
  | ⟨false, false, false, true, false, false⟩ => x &&& ~~~y
  | ⟨false, false, false, true, false, true⟩ => ~~~x ||| y
  | ⟨false, false, false, true, true, false⟩ => x - y - 1
  | ⟨false, false, false, true, true, true⟩ => y - x
  | ⟨false, false, true, false, false, false⟩ => 0
  | ⟨false, false, true, false, false, true⟩ => -1
  | ⟨false, false, true, false, true, false⟩ => x
  | ⟨false, false, true, false, true, true⟩ => ~~~x
  | ⟨false, false, true, true, false, false⟩ => x
  | ⟨false, false, true, true, false, true⟩ => ~~~x
  | ⟨false, false, true, true, true, false⟩ => x - 1
  | ⟨false, false, true, true, true, true⟩ => -x
  | ⟨false, true, false, false, false, false⟩ => ~~~x &&& y
  | ⟨false, true, false, false, false, true⟩ => x ||| ~~~y
  | ⟨false, true, false, false, true, false⟩ => y - x - 1
  | ⟨false, true, false, false, true, true⟩ => x - y
  | ⟨false, true, false, true, false, false⟩ => ~~~(x ||| y)
  | ⟨false, true, false, true, false, true⟩ => x ||| y
  | ⟨false, true, false, true, true, false⟩ => -x - y - 2
  | ⟨false, true, false, true, true, true⟩ => x + y + 1
  | ⟨false, true, true, false, false, false⟩ => 0
  | ⟨false, true, true, false, false, true⟩ => -1
  | ⟨false, true, true, false, true, false⟩ => ~~~x
  | ⟨false, true, true, false, true, true⟩ => x
  | ⟨false, true, true, true, false, false⟩ => ~~~x
  | ⟨false, true, true, true, false, true⟩ => x
  | ⟨false, true, true, true, true, false⟩ => -x - 2
  | ⟨false, true, true, true, true, true⟩ => x + 1
  | ⟨true, false, false, false, false, false⟩ => 0
  | ⟨true, false, false, false, false, true⟩ => -1
  | ⟨true, false, false, false, true, false⟩ => y
  | ⟨true, false, false, false, true, true⟩ => ~~~y
  | ⟨true, false, false, true, false, false⟩ => 0
  | ⟨true, false, false, true, false, true⟩ => -1
  | ⟨true, false, false, true, true, false⟩ => ~~~y
  | ⟨true, false, false, true, true, true⟩ => y
  | ⟨true, false, true, false, false, false⟩ => 0
  | ⟨true, false, true, false, false, true⟩ => -1
  | ⟨true, false, true, false, true, false⟩ => 0
  | ⟨true, false, true, false, true, true⟩ => -1
  | ⟨true, false, true, true, false, false⟩ => 0
  | ⟨true, false, true, true, false, true⟩ => -1
  | ⟨true, false, true, true, true, false⟩ => -1
  | ⟨true, false, true, true, true, true⟩ => 0
  | ⟨true, true, false, false, false, false⟩ => y
  | ⟨true, true, false, false, false, true⟩ => ~~~y
  | ⟨true, true, false, false, true, false⟩ => y - 1
  | ⟨true, true, false, false, true, true⟩ => -y
  | ⟨true, true, false, true, false, false⟩ => ~~~y
  | ⟨true, true, false, true, false, true⟩ => y
  | ⟨true, true, false, true, true, false⟩ => -y - 2
  | ⟨true, true, false, true, true, true⟩ => y + 1
  | ⟨true, true, true, false, false, false⟩ => 0
  | ⟨true, true, true, false, false, true⟩ => -1
  | ⟨true, true, true, false, true, false⟩ => -1
  | ⟨true, true, true, false, true, true⟩ => 0
  | ⟨true, true, true, true, false, false⟩ => -1
  | ⟨true, true, true, true, false, true⟩ => 0
  | ⟨true, true, true, true, true, false⟩ => -2
  | ⟨true, true, true, true, true, true⟩ => 1

/-- The codes with f = 0 and no = 0 are the conjunction of the conditioned inputs: 0 absorbs, the word of ones is
neutral, and two complements are the complement of the disjunction. -/
theorem aluTable_and (x y : Word) (zx nx zy ny : Bool) :
    aluTable x y ⟨zx, nx, zy, ny, false, false⟩ = conditionInput x zx nx &&& conditionInput y zy ny := by
  cases zx <;> cases nx <;> cases zy <;> cases ny <;>
    simp only [aluTable, conditionInput_plain, conditionInput_complemented, conditionInput_zeroed,
      conditionInput_zeroed_complemented, BitVec.ofNat_eq_ofNat, BitVec.zero_and, BitVec.and_zero, neg_one_and,
      and_neg_one, BitVec.not_or]

/-- The codes with f = 1 and no = 0 are the sum of the conditioned inputs, the complement being arithmetic. -/
theorem aluTable_add (x y : Word) (zx nx zy ny : Bool) :
    aluTable x y ⟨zx, nx, zy, ny, true, false⟩ = conditionInput x zx nx + conditionInput y zy ny := by
  cases zx <;> cases nx <;> cases zy <;> cases ny <;>
    simp only [aluTable, conditionInput_plain, conditionInput_complemented, conditionInput_zeroed,
      conditionInput_zeroed_complemented, not_eq_neg_sub_one] <;>
    ring

/-- A code with no = 1 is the complement of the code with no = 0: by De Morgan's laws for f = 0, and by arithmetic for
f = 1. -/
theorem aluTable_not (x y : Word) (zx nx zy ny f : Bool) :
    aluTable x y ⟨zx, nx, zy, ny, f, true⟩ = ~~~aluTable x y ⟨zx, nx, zy, ny, f, false⟩ := by
  cases f with
  | false =>
    cases zx <;> cases nx <;> cases zy <;> cases ny <;>
      simp only [aluTable, BitVec.not_and, BitVec.not_not] <;> rfl
  | true =>
    cases zx <;> cases nx <;> cases zy <;> cases ny <;> simp only [aluTable, not_eq_neg_sub_one] <;> ring

/-- `REF_ALU` computes the table's function under every control code (R173, R175). -/
theorem refAlu_out_eq_aluTable (x y : Word) (c : Ctl) : (refAlu x y c).out = aluTable x y c := by
  obtain ⟨zx, nx, zy, ny, f, no⟩ := c
  cases f with
  | false =>
    cases no with
    | false => exact (aluTable_and ..).symm
    | true =>
      rw [aluTable_not, aluTable_and]
      rfl
  | true =>
    cases no with
    | false => exact (aluTable_add ..).symm
    | true =>
      rw [aluTable_not, aluTable_add]
      rfl

/-- With zy = 1 the second input is not read (R173). -/
theorem refAlu_of_zeroed_y (x y : Word) (zx nx ny f no : Bool) :
    refAlu x y ⟨zx, nx, true, ny, f, no⟩ = refAlu x 0 ⟨zx, nx, true, ny, f, no⟩ := rfl

/-- The whole next state of a compute instruction, its result the table's function of D and the second operand (R127,
R175). -/
theorem exec_eq_afterSigned_of_aluTable {i : Instr} {ign : BitVec 2} {a : Operand} {c : Ctl} {d : Dest} {j : Cond}
    {s : State} {r : Word} (hf : i.fields = .inr ⟨ign, a, c, d, j⟩)
    (hr : aluTable s.d (Claims.secondOperand s a) c = r) : exec i s = .next (Claims.afterSigned s r d j) := by
  rw [exec_eq_afterSigned hf, cpuAlu, refAlu_out_eq_aluTable, hr]

end Sys2Proof.Machine
end

section
/-! The ALU family: the table of the reference ALU, the 64 rows that fix a control code, the flags, and the ALU's sum as
the adder's. -/

namespace Sys2Proof.Machine

/-- Settles O30: the table row by row, and the corner cases by computing them, none of which reads an unknown y. -/
theorem referenceAluTable : Obligations.ReferenceAluTable := by
  refine ⟨fun x y => ?_, fun y => ?_, by decide⟩
  · have hrow {c : Ctl} {r : Word} (h : aluTable x y c = r) : (refAlu x y c).out = r :=
      (refAlu_out_eq_aluTable x y c).trans h
    and_intros <;> exact hrow rfl
  · rw [refAlu_of_zeroed_y 0x8000, refAlu_of_zeroed_y 0xFFFF, refAlu_of_zeroed_y 0]
    decide

/-- Settles O22: each row's fields, and the table's function for its code. -/
theorem controlCodes000xxx : Obligations.ControlCodes000xxx := by
  intro ign a d j s x y
  and_intros <;> exact exec_eq_afterSigned_of_aluTable rfl rfl

/-- Settles O23: each row's fields, and the table's function for its code. -/
theorem controlCodes001xxx : Obligations.ControlCodes001xxx := by
  intro ign a d j s x
  and_intros <;> exact exec_eq_afterSigned_of_aluTable rfl rfl

/-- Settles O24: each row's fields, and the table's function for its code. -/
theorem controlCodes010xxx : Obligations.ControlCodes010xxx := by
  intro ign a d j s x y
  and_intros <;> exact exec_eq_afterSigned_of_aluTable rfl rfl

/-- Settles O25: each row's fields, and the table's function for its code. -/
theorem controlCodes011xxx : Obligations.ControlCodes011xxx := by
  intro ign a d j s x
  and_intros <;> exact exec_eq_afterSigned_of_aluTable rfl rfl

/-- Settles O26: each row's fields, and the table's function for its code. -/
theorem controlCodes100xxx : Obligations.ControlCodes100xxx := by
  intro ign a d j s y
  and_intros <;> exact exec_eq_afterSigned_of_aluTable rfl rfl

/-- Settles O28: each row's fields, and the table's function for its code. -/
theorem controlCodes110xxx : Obligations.ControlCodes110xxx := by
  intro ign a d j s y
  and_intros <;> exact exec_eq_afterSigned_of_aluTable rfl rfl

/-- Settles O29: each row's fields, and the constant the table gives its code. -/
theorem controlCodes111xxx : Obligations.ControlCodes111xxx := by
  intro ign a d j s
  and_intros <;> exact exec_eq_afterSigned_of_aluTable rfl rfl

/-- Settles O27: each row's fields, and the constant the table gives its code. -/
theorem controlCodes101xxx : Obligations.ControlCodes101xxx := by
  intro ign a d j s
  and_intros <;> exact exec_eq_afterSigned_of_aluTable rfl rfl

/-- Settles O31: each flag is a sign class of the result, and of the three classes exactly one holds. -/
theorem flagsOfEveryLawfulAlu : Obligations.FlagsOfEveryLawfulAlu := by
  refine ⟨flagLaw_cpuAlu, fun alu hlaw x y c => ?_⟩
  obtain ⟨hzero, hneg⟩ := flags_eq_sign hlaw x y c
  simp only [hzero, hneg, decide_eq_true_eq, decide_eq_false_iff_not, true_and]
  omega

/-- Settles O33: with carry-in 0 the adder's sum is the sum of its operands. -/
theorem referenceAluAddsLikeTheAdder : Obligations.ReferenceAluAddsLikeTheAdder := by
  intro x y zx nx zy ny
  rw [add16c_sum]
  exact (BitVec.add_zero _).symm

end Sys2Proof.Machine
end

section
/-! The exceptions family: the core's outcome type with no fault and no refusal in it, and runs with no end. -/

namespace Sys2Proof.Machine

/-- With no fault and no refusal to raise, an outcome of the core is a next state (R266). -/
theorem exists_next_of_coreOutcome (o : Host.Outcome State Fault CoreRefusal) : ∃ t, o = .next t := by
  cases o with
  | next t => exact ⟨t, rfl⟩
  | fault f => exact nomatch f
  | refused r => exact nomatch r

/-- The core's step reaches the host as the network's next state. -/
theorem outcomeForHost_coreStep (alu : Alu) (s : State) : outcomeForHost (coreStep alu s) = .next (s.tick alu) :=
  outcomeForHost_next (s.tick alu)

/-- Settles O14: every tick answers a state, so a run of any length has a last one. -/
theorem everyRunGoesOn : Obligations.EveryRunGoesOn := exists_runsTo

/-- Settles O59: the two empty types leave one outcome, and the machine's step is the network's tick. -/
theorem coreHasOneOutcome : Obligations.CoreHasOneOutcome :=
  ⟨exists_next_of_coreOutcome, fun s => (step_eq_tick s).trans (outcomeForHost_coreStep cpuAlu s).symm⟩

end Sys2Proof.Machine
end

section
/-! Reset and the two ticks of a self-loop: what a reset tick does to PC and to nothing else, and the network's next
state for the two words of the loop, for any ALU. -/

namespace Sys2Proof.Machine

/-- Every commit under reset leaves PC at 0 (R271). -/
theorem commit_pc_of_reset (s : State) (e : Effect) (h : s.resetIn.head? = some true) : (s.commit e).pc = 0 :=
  nextPc_of_reset s e.jump ((resetLine_eq_true_iff s).mpr h)

/-- A tick with reset asserted answers PC 0 and moves on to the rest of the schedule (R270, R271). -/
theorem step_of_reset (s : State) (rest : List Bool) (h : s.resetIn = true :: rest) :
    ∃ u, step s = .next u ∧ u.pc = 0 ∧ u.resetIn = rest := by
  refine ⟨_, step_eq_commit s, commit_pc_of_reset s _ ?_, ?_⟩
  · rw [h, List.head?_cons]
  · rw [commit_resetIn, h, List.tail_cons]

/-- What an instruction asks of the commit does not depend on the reset input (R272). -/
theorem effectOf_with_resetIn (f : BitVec 15 ⊕ CompFields) (s : State) (resets : List Bool) :
    effectOf f { s with resetIn := resets } = effectOf f s := by
  obtain v | ⟨_, a, _, _, _⟩ := f
  · rfl
  · cases a <;> rfl

/-- Without reset and without a jump, PC counts up modulo 2^15 (R24). -/
theorem pcAfter_of_no_jump (s : State) (h : s.resetIn.head? ≠ some true) : Claims.pcAfter s false = s.pc + 1 := by
  rw [← nextPc_eq_pcAfter]
  exact nextPc_of_no_jump s (Bool.eq_false_of_not_eq_true fun hr => h ((resetLine_eq_true_iff s).mp hr))

/-- The tick of an address-load's word, for any ALU, without reset (R120). -/
theorem tick_of_packLiteral (alu : Alu) (s : State) (v : BitVec 15) (hw : s.fetchWord = packLiteral v)
    (h : s.resetIn.head? ≠ some true) :
    s.tick alu = { s with a := zextWord v, pc := s.pc + 1, resetIn := s.resetIn.tail } := by
  have htype : s.fetchWord.getLsbD 15 = false := hw ▸ Laws.TypeBit.of_packLiteral v
  rw [tick_of_load alu s htype, hw, extract_packLiteral, pcAfter_of_no_jump s h]

/-- The tick of a jump with no destination and condition code 111, for any ALU, without reset: PC is the old A[14:0] and
nothing else changes (R131, R160). -/
theorem tick_of_plain_jump (alu : Alu) (s : State) (c : CompFields) (hw : s.fetchWord = c.pack)
    (hdest : c.dest = Dest.nowhere) (hcond : c.cond = Cond.always) (h : s.resetIn.head? ≠ some true) :
    s.tick alu = { s with pc := lowAddr s.a, resetIn := s.resetIn.tail } := by
  have htype : s.fetchWord.getLsbD 15 = true := hw ▸ Laws.TypeBit.of_pack c
  rw [tick_of_compute alu s htype, hw, ofWord_pack, hdest, hcond, Claims.afterCompute, condMet_always,
    Claims.afterResult, pcAfter_of_jump s h]
  rfl

/-- A run of the machine is ticks of the network with the wired ALU, as many as it is long. -/
theorem runsTo_iterate_tick (n : Nat) (s : State) : RunsTo n s ((State.tick cpuAlu)^[n] s) := by
  induction n generalizing s with
  | zero => exact (runsTo_zero_iff s s).mpr rfl
  | succ n ih => exact (runsTo_succ_iff n s _).mpr ⟨_, step_eq_tick s, ih (s.tick cpuAlu)⟩

/-- A schedule that does not start with a reset reads 0 in its first tick (R270). -/
theorem getD_zero_of_head?_ne {resets : List Bool} (h : resets.head? ≠ some true) :
    resets.getD 0 Config.unlistedReset = false := by
  cases resets with
  | nil => rfl
  | cons r rest => simpa using h

end Sys2Proof.Machine
end

section
/-! The reset and hazards family: a reset tick, reset held for several ticks, the launch memories, and the
two-instruction self-loop. -/

namespace Sys2Proof.Machine

/-- Settles O48: under reset every commit answers PC 0, and none writes the instruction memory. -/
theorem resetForcesPcToZero : Obligations.ResetForcesPcToZero := by
  intro s h
  refine ⟨fun i => ⟨_, exec_eq_commit i s, commit_pc_of_reset s _ h, ?_⟩,
    _, step_eq_commit s, commit_pc_of_reset s _ h⟩
  rw [State.fetchWord, commit_pc_of_reset s _ h, commit_im]

/-- Settles O49: both steps commit one and the same effect, and the commit reads the reset input for PC alone. -/
theorem resetTouchesOnlyPc : Obligations.ResetTouchesOnlyPc := by
  intro s rest
  refine ⟨_, step_eq_commit _, ?_⟩
  rw [step_eq_commit, effectOf_with_resetIn, effectOf_with_resetIn]
  rfl

/-- Settles O50, by induction on the number of ticks from 1 on: each tick uses up one reset of the schedule. -/
theorem heldResetHoldsPc : Obligations.HeldResetHoldsPc := by
  intro k n s rest hs h1 hk
  induction n, h1 using Nat.le_induction generalizing k s with
  | base =>
    obtain ⟨k, rfl⟩ := Nat.exists_eq_add_of_le' hk
    obtain ⟨u, hu, hpc, -⟩ := step_of_reset s _ hs
    exact ⟨u, (runsTo_succ_iff 0 s u).mpr ⟨u, hu, (runsTo_zero_iff u u).mpr rfl⟩, hpc⟩
  | succ n _ ih =>
    obtain ⟨k, rfl⟩ := Nat.exists_eq_add_of_le' (Nat.le_of_add_left_le hk)
    obtain ⟨u, hu, -, hrest⟩ := step_of_reset s _ hs
    obtain ⟨t, hrun, hpc⟩ := ih k u hrest (Nat.le_of_succ_le_succ hk)
    exact ⟨t, (runsTo_succ_iff n s t).mpr ⟨u, hu, hrun⟩, hpc⟩

/-- Settles O55: nothing is listed at launch, and placing a word is a word write. -/
theorem launchMemoriesAreCanonical : Obligations.LaunchMemoriesAreCanonical :=
  ⟨⟨wf_nil, wf_nil⟩, fun s w ⟨hdm, him⟩ => ⟨hdm, wf_placeWord_im s w him⟩⟩

/-- Settles O57: the address-load puts e in A and goes to e + 1, and the jump there goes back to A[14:0], which is e. -/
theorem selfLoopForEveryAlu : Obligations.SelfLoopForEveryAlu := by
  intro alu s c hload hjump hdest hcond h0 h1
  rw [tick_of_packLiteral alu s s.pc hload h0, tick_of_plain_jump alu _ c ?_ hdest hcond ?_, lowAddr_zextWord,
    zextWord_eq_ofNat]
  · exact hjump
  · exact h1

/-- Settles O58: the state between the two ticks is the address-load's, the state after them the one of
`selfLoopForEveryAlu` for the wired ALU; its A is the old one because A held e before. -/
theorem selfLoopIsTerminal : Obligations.SelfLoopIsTerminal := by
  intro s ha hload hjump h0 h1
  have hpack : (CompFields.ofWord 0xEA87).pack = 0xEA87 := pack_ofWord _ (by decide)
  have hone : (s.tick cpuAlu).dm = s.dm := by rw [tick_of_packLiteral cpuAlu s s.pc hload h0]
  have htwo := selfLoopForEveryAlu cpuAlu s _ hload (hjump.trans hpack.symm) rfl rfl h0 h1
  rw [← ha] at htwo
  have hrun : RunsTo 2 s { s with resetIn := s.resetIn.tail.tail } := htwo ▸ runsTo_iterate_tick 2 s
  refine ⟨by decide, fun k hk => ?_, fun k hk => ?_, _, hrun, rfl, rfl, rfl⟩
  · match k with
    | 0 => exact getD_zero_of_head?_ne h0
    | 1 => simpa using getD_zero_of_head?_ne h1
  · match k with
    | 0 => exact ⟨s, (runsTo_zero_iff s s).mpr rfl, rfl⟩
    | 1 => exact ⟨_, runsTo_iterate_tick 1 s, hone⟩
    | 2 => exact ⟨_, hrun, rfl⟩

end Sys2Proof.Machine
end
